-- ==== Sys2Proof/Word.lean ====
section
/-! DEFINITION. The widths of the block: the 32-bit instruction word, the 32-bit program counter, the field widths. -/

namespace Sys2Proof

/-- One instruction word, an unsigned 32-bit value; no byte order applies to it (R40, R49). -/
abbrev Word := BitVec 32

/-- A program counter: the byte offset of a slot, 32 bits (R36, R39). -/
abbrev PC := BitVec 32

/-- A register index, 5 bits (R6, R30): only ever compared for equality, never used to read a register. -/
abbrev Reg := BitVec 5

/-- A major opcode, `w[6:0]` (R50). -/
abbrev Opcode := BitVec 7

/-- The `funct3` field (R52). -/
abbrev Funct3 := BitVec 3

/-- The `funct7` field (R52). -/
abbrev Funct7 := BitVec 7

end Sys2Proof
end

