-- ==== Sys2Proof/Config.lean ====
section
/-! DEFINITION. What is fixed for a run: the model parameters the source leaves open (R6, R29) and the three run
inputs of the configuration word (R28). -/

namespace Sys2Proof

/-- The hazard-timing comparator convention, parameter `P_cmp` (R6, R130). -/
inductive CmpPolicy where
  | strict
  | nonStrict
deriving DecidableEq, Repr

/-- The four model parameters of R6: configuration, fixed for the whole model; no rule writes them (R29). -/
structure Params where
  /-- `P_cmp` (D12). -/
  cmp : CmpPolicy
  /-- `P_branchRawExempt`: a branch candidate is not checked for RAW (D11). -/
  branchRawExempt : Bool
  /-- `P_x0Exempt`: register index 0 is skipped by the comparators (D10). -/
  x0Exempt : Bool
  /-- `P_basePC`: the offset of slot 0; a run needs a multiple of 4 (D14, R110). -/
  basePC : PC
deriving DecidableEq, Repr

/-- The defaults of R6, which a model that follows the source exactly uses.
DESIGN CHOICE of the spec (log entry 4); unsafe with respect to a repository that chose otherwise. -/
def Params.specDefault : Params :=
  { cmp := .strict, branchRawExempt := true, x0Exempt := false, basePC := 0#32 }

/-- The configuration word `CFG`, three switches (R28): written by the host before a run, constant during it. -/
structure Cfg where
  forwarding : Bool
  dataHazardEnabled : Bool
  controlHazardEnabled : Bool
deriving DecidableEq, Repr

/-- `NSTAGES`, the stage count (R6, R15). -/
def nStages : Nat := 5

/-- The distance in bytes from a slot to the next (R6, R36). -/
def pcIncrement : Nat := 4

end Sys2Proof
end

