-- ==== Sys2Proof/Syntax.lean ====
section
/-! DEFINITION. The instruction set as data: formats, kinds, stages, the decoded fields, the metadata record, and
`Instr`, one constructor per row of spec/opcode_table.json. -/

namespace Sys2Proof

/-- The six formats (R16, R51). -/
inductive Fmt where
  | R | I | S | B | U | J
deriving DecidableEq, Repr

/-- The 37 recognised kinds of R62 and the four placeholders of R63. -/
inductive Kind where
  | ADD | SUB | SLL | SLT | SLTU | XOR | SRL | SRA
  | OR | AND | ADDI | SLTI | SLTIU | XORI | ORI | ANDI
  | SLLI | SRLI | SRAI | LB | LH | LW | LBU | LHU
  | JALR | SB | SH | SW | BEQ | BNE | BLT | BGE
  | BLTU | BGEU | LUI | AUIPC | JAL | UNKNOWN_R | UNKNOWN_I | UNKNOWN_S
  | UNKNOWN_B
deriving DecidableEq, Repr

/-- The pipeline stages (R15): not yet fetched, then the five stages. -/
inductive Stage where
  | notStarted | IF | ID | EX | MEM | WB
deriving DecidableEq, Repr

/-- The ordered operand register indices of an instruction, 0, 1 or 2 of them (R17); a duplicate is kept (D24). -/
inductive SourceRegs where
  | none
  | one (r : Reg)
  | two (r1 r2 : Reg)
deriving DecidableEq, Repr

/-- InstructionMeta (R17). `writesRegister` and `readsRegister` are derived from `destReg` and `sourceRegs`
(`InstructionMeta.writesRegister`, `InstructionMeta.readsRegister`), so that a value that breaks the invariant of R18
cannot be built. -/
structure InstructionMeta where
  name : String
  isLoad : Bool
  isStore : Bool
  isBranch : Bool
  isJump : Bool
  sourceRegs : SourceRegs
  destReg : Option Reg
  produceStage : Stage
  consumeStage : Stage
deriving DecidableEq, Repr

/-- The raw fields a format extracts beside the opcode (R52 to R58); every immediate is the unsigned value (R59). -/
inductive Fields where
  | r (rd : Reg) (funct3 : Funct3) (rs1 rs2 : Reg) (funct7 : Funct7)
  | i (rd : Reg) (funct3 : Funct3) (rs1 : Reg) (imm : BitVec 12)
  | s (funct3 : Funct3) (rs1 rs2 : Reg) (imm : BitVec 12)
  | b (funct3 : Funct3) (rs1 rs2 : Reg) (imm : BitVec 13)
  | u (rd : Reg) (imm : BitVec 20)
  | j (rd : Reg) (imm : BitVec 21)
deriving DecidableEq, Repr

/-- A decoded instruction, one constructor per row of spec/opcode_table.json. A recognised kind carries the fields its
keys leave free (R62); a placeholder carries every field of its format (R63). UNKNOWN_I has a row, and a constructor,
for each of its three opcodes (log entry 10). -/
inductive Instr where
  /-- ADD (R71). -/
  | add (rd rs1 rs2 : Reg)
  /-- SUB (R72). -/
  | sub (rd rs1 rs2 : Reg)
  /-- SLL (R73). -/
  | sll (rd rs1 rs2 : Reg)
  /-- SLT (R74). -/
  | slt (rd rs1 rs2 : Reg)
  /-- SLTU (R75). -/
  | sltu (rd rs1 rs2 : Reg)
  /-- XOR (R76). -/
  | xor (rd rs1 rs2 : Reg)
  /-- SRL (R77). -/
  | srl (rd rs1 rs2 : Reg)
  /-- SRA (R78). -/
  | sra (rd rs1 rs2 : Reg)
  /-- OR (R79). -/
  | or (rd rs1 rs2 : Reg)
  /-- AND (R80). -/
  | and (rd rs1 rs2 : Reg)
  /-- ADDI (R81). -/
  | addi (rd rs1 : Reg) (imm : BitVec 12)
  /-- SLTI (R82). -/
  | slti (rd rs1 : Reg) (imm : BitVec 12)
  /-- SLTIU (R83). -/
  | sltiu (rd rs1 : Reg) (imm : BitVec 12)
  /-- XORI (R84). -/
  | xori (rd rs1 : Reg) (imm : BitVec 12)
  /-- ORI (R85). -/
  | ori (rd rs1 : Reg) (imm : BitVec 12)
  /-- ANDI (R86). -/
  | andi (rd rs1 : Reg) (imm : BitVec 12)
  /-- SLLI (R87). -/
  | slli (rd rs1 : Reg) (imm : BitVec 12)
  /-- SRLI (R88). -/
  | srli (rd rs1 : Reg) (imm : BitVec 12)
  /-- SRAI (R89). -/
  | srai (rd rs1 : Reg) (imm : BitVec 12)
  /-- LB (R90). -/
  | lb (rd rs1 : Reg) (imm : BitVec 12)
  /-- LH (R91). -/
  | lh (rd rs1 : Reg) (imm : BitVec 12)
  /-- LW (R92). -/
  | lw (rd rs1 : Reg) (imm : BitVec 12)
  /-- LBU (R93). -/
  | lbu (rd rs1 : Reg) (imm : BitVec 12)
  /-- LHU (R94). -/
  | lhu (rd rs1 : Reg) (imm : BitVec 12)
  /-- JALR (R95). -/
  | jalr (rd rs1 : Reg) (imm : BitVec 12)
  /-- SB (R96). -/
  | sb (rs1 rs2 : Reg) (imm : BitVec 12)
  /-- SH (R97). -/
  | sh (rs1 rs2 : Reg) (imm : BitVec 12)
  /-- SW (R98). -/
  | sw (rs1 rs2 : Reg) (imm : BitVec 12)
  /-- BEQ (R99). -/
  | beq (rs1 rs2 : Reg) (imm : BitVec 13)
  /-- BNE (R100). -/
  | bne (rs1 rs2 : Reg) (imm : BitVec 13)
  /-- BLT (R101). -/
  | blt (rs1 rs2 : Reg) (imm : BitVec 13)
  /-- BGE (R102). -/
  | bge (rs1 rs2 : Reg) (imm : BitVec 13)
  /-- BLTU (R103). -/
  | bltu (rs1 rs2 : Reg) (imm : BitVec 13)
  /-- BGEU (R104). -/
  | bgeu (rs1 rs2 : Reg) (imm : BitVec 13)
  /-- LUI (R105). -/
  | lui (rd : Reg) (imm : BitVec 20)
  /-- AUIPC (R106). -/
  | auipc (rd : Reg) (imm : BitVec 20)
  /-- JAL (R107). -/
  | jal (rd : Reg) (imm : BitVec 21)
  /-- UNKNOWN_R: opcode 0x33, keys of no R kind (R63). -/
  | unknownR (rd : Reg) (funct3 : Funct3) (rs1 rs2 : Reg) (funct7 : Funct7)
  /-- UNKNOWN_I under opcode 0x13 (R63). -/
  | unknownIOpImm (rd : Reg) (funct3 : Funct3) (rs1 : Reg) (imm : BitVec 12)
  /-- UNKNOWN_I under opcode 0x03 (R63). -/
  | unknownILoad (rd : Reg) (funct3 : Funct3) (rs1 : Reg) (imm : BitVec 12)
  /-- UNKNOWN_I under opcode 0x67 (R63). -/
  | unknownIJalr (rd : Reg) (funct3 : Funct3) (rs1 : Reg) (imm : BitVec 12)
  /-- UNKNOWN_S: opcode 0x23, `funct3` of no S kind (R63). -/
  | unknownS (funct3 : Funct3) (rs1 rs2 : Reg) (imm : BitVec 12)
  /-- UNKNOWN_B: opcode 0x63, `funct3` of no B kind (R63). -/
  | unknownB (funct3 : Funct3) (rs1 rs2 : Reg) (imm : BitVec 13)
deriving DecidableEq, Repr

/-- The decoder's result (R66): an instruction, or a decode failure that carries the 7-bit opcode (R65). -/
inductive Decoded where
  | instr (i : Instr)
  | failure (opcode : Opcode)
deriving DecidableEq, Repr

end Sys2Proof
end

