-- ==== Sys2Proof/WellFormed.lean ====
section
/-! DEFINITION. Which `Instr` values the decoder can produce: the immediate and key conditions of R55, R57, R61, R63. -/

namespace Sys2Proof

/-- `imm[11:5]` of an I immediate: the selector of the shift kinds (R60). -/
def shiftSelector (imm : BitVec 12) : BitVec 7 := imm.extractLsb' 5 7

/-- Whether `(funct3, funct7)` selects an R kind (R62): `funct7 = 0x00` selects one for every `funct3`,
`funct7 = 0x20` only for SUB (0) and SRA (5). -/
def isRKey (funct3 : Funct3) (funct7 : Funct7) : Bool :=
  funct7 == 0x00#7 || (funct7 == 0x20#7 && (funct3 == 0#3 || funct3 == 5#3))

/-- Whether `(funct3, imm[11:5])` selects an OP-IMM kind (R61, R62): only `funct3` 1 and 5 test the selector. -/
def isOpImmKey (funct3 : Funct3) (imm : BitVec 12) : Bool :=
  if funct3 == 1#3 then shiftSelector imm == 0x00#7
  else if funct3 == 5#3 then shiftSelector imm == 0x00#7 || shiftSelector imm == 0x20#7
  else true

/-- Whether `funct3` selects a LOAD kind (R62). -/
def isLoadKey (funct3 : Funct3) : Bool :=
  funct3 == 0#3 || funct3 == 1#3 || funct3 == 2#3 || funct3 == 4#3 || funct3 == 5#3

/-- Whether `funct3` selects a STORE kind (R62). -/
def isStoreKey (funct3 : Funct3) : Bool := funct3 == 0#3 || funct3 == 1#3 || funct3 == 2#3

/-- Whether `funct3` selects a BRANCH kind (R62). -/
def isBranchKey (funct3 : Funct3) : Bool := !(funct3 == 2#3 || funct3 == 3#3)

/-- A B immediate has `imm[0] = 0` (R55). -/
def evenB (imm : BitVec 13) : Bool := !imm.getLsbD 0

/-- A J immediate has `imm[0] = 0` (R57). -/
def evenJ (imm : BitVec 21) : Bool := !imm.getLsbD 0

/-- Well-formedness: the shift kinds hold their selector in `imm[11:5]` (R61), B and J immediates are even
(R55, R57), a placeholder's keys select no kind (R63). -/
def Instr.wf : Instr → Bool
  | .add _ _ _ => true
  | .sub _ _ _ => true
  | .sll _ _ _ => true
  | .slt _ _ _ => true
  | .sltu _ _ _ => true
  | .xor _ _ _ => true
  | .srl _ _ _ => true
  | .sra _ _ _ => true
  | .or _ _ _ => true
  | .and _ _ _ => true
  | .addi _ _ _ => true
  | .slti _ _ _ => true
  | .sltiu _ _ _ => true
  | .xori _ _ _ => true
  | .ori _ _ _ => true
  | .andi _ _ _ => true
  | .slli _ _ imm => shiftSelector imm == 0x00#7
  | .srli _ _ imm => shiftSelector imm == 0x00#7
  | .srai _ _ imm => shiftSelector imm == 0x20#7
  | .lb _ _ _ => true
  | .lh _ _ _ => true
  | .lw _ _ _ => true
  | .lbu _ _ _ => true
  | .lhu _ _ _ => true
  | .jalr _ _ _ => true
  | .sb _ _ _ => true
  | .sh _ _ _ => true
  | .sw _ _ _ => true
  | .beq _ _ imm => evenB imm
  | .bne _ _ imm => evenB imm
  | .blt _ _ imm => evenB imm
  | .bge _ _ imm => evenB imm
  | .bltu _ _ imm => evenB imm
  | .bgeu _ _ imm => evenB imm
  | .lui _ _ => true
  | .auipc _ _ => true
  | .jal _ imm => evenJ imm
  | .unknownR _ funct3 _ _ funct7 => !isRKey funct3 funct7
  | .unknownIOpImm _ funct3 _ imm => !isOpImmKey funct3 imm
  | .unknownILoad _ funct3 _ _ => !isLoadKey funct3
  | .unknownIJalr _ funct3 _ _ => !(funct3 == 0#3)
  | .unknownS funct3 _ _ _ => !isStoreKey funct3
  | .unknownB funct3 _ _ imm => !isBranchKey funct3 && evenB imm

end Sys2Proof
end

