-- ==== Sys2Proof/Decode.lean ====
section
/-! DEFINITION. The decoder (R49 to R66), total on all 32-bit words; the views of a decoded instruction (R16); the
encoder, written from the same field positions; the opcode table as data. -/

namespace Sys2Proof

/-! ### Field extraction (R50, R52 to R57) -/

/-- `w[lo+len-1 : lo]` (R8). -/
def bits (w : Word) (lo len : Nat) : BitVec len := w.extractLsb' lo len

/-- `opcode = w[6:0]` (R50). -/
def opcodeOf (w : Word) : Opcode := bits w 0 7
/-- `rd = w[11:7]` (R52). -/
def rdOf (w : Word) : Reg := bits w 7 5
/-- `funct3 = w[14:12]` (R52). -/
def funct3Of (w : Word) : Funct3 := bits w 12 3
/-- `rs1 = w[19:15]` (R52). -/
def rs1Of (w : Word) : Reg := bits w 15 5
/-- `rs2 = w[24:20]` (R52). -/
def rs2Of (w : Word) : Reg := bits w 20 5
/-- `funct7 = w[31:25]` (R52). -/
def funct7Of (w : Word) : Funct7 := bits w 25 7
/-- The I immediate, `w[31:20]` (R53). -/
def immIOf (w : Word) : BitVec 12 := bits w 20 12
/-- The S immediate, the concatenation of `w[31:25]` and `w[11:7]` (R54). -/
def immSOf (w : Word) : BitVec 12 := bits w 25 7 ++ bits w 7 5
/-- The B immediate, the concatenation of `w[31]`, `w[7]`, `w[30:25]`, `w[11:8]` and a 0 bit (R55). -/
def immBOf (w : Word) : BitVec 13 := bits w 31 1 ++ bits w 7 1 ++ bits w 25 6 ++ bits w 8 4 ++ 0#1
/-- The U immediate, `w[31:12]`, not shifted (R56). -/
def immUOf (w : Word) : BitVec 20 := bits w 12 20
/-- The J immediate, the concatenation of `w[31]`, `w[19:12]`, `w[20]`, `w[30:21]` and a 0 bit (R57; C1). -/
def immJOf (w : Word) : BitVec 21 := bits w 31 1 ++ bits w 12 8 ++ bits w 20 1 ++ bits w 21 10 ++ 0#1

/-- The format an opcode is dispatched to, if any (R51).
DESIGN CHOICE of the spec: exactly these nine opcodes (D3, log entry 18). -/
def fmtOf (opc : Opcode) : Option Fmt :=
  if opc = 0x33#7 then some .R
  else if opc = 0x03#7 then some .I
  else if opc = 0x13#7 then some .I
  else if opc = 0x67#7 then some .I
  else if opc = 0x23#7 then some .S
  else if opc = 0x63#7 then some .B
  else if opc = 0x37#7 then some .U
  else if opc = 0x17#7 then some .U
  else if opc = 0x6F#7 then some .J
  else none

/-- The fields a format extracts from a word (R52 to R57). -/
def fieldsOf (fmt : Fmt) (w : Word) : Fields :=
  match fmt with
  | .R => .r (rdOf w) (funct3Of w) (rs1Of w) (rs2Of w) (funct7Of w)
  | .I => .i (rdOf w) (funct3Of w) (rs1Of w) (immIOf w)
  | .S => .s (funct3Of w) (rs1Of w) (rs2Of w) (immSOf w)
  | .B => .b (funct3Of w) (rs1Of w) (rs2Of w) (immBOf w)
  | .U => .u (rdOf w) (immUOf w)
  | .J => .j (rdOf w) (immJOf w)

/-! ### The decoder (R61, R65, R66), one function per opcode -/

/-- Opcode 0x33, keyed by `funct3` and `funct7` together (R61, D6). -/
def decodeOp (rd : Reg) (funct3 : Funct3) (rs1 rs2 : Reg) (funct7 : Funct7) : Instr :=
  if funct7 = 0x00#7 then
    if funct3 = 0#3 then .add rd rs1 rs2
    else if funct3 = 1#3 then .sll rd rs1 rs2
    else if funct3 = 2#3 then .slt rd rs1 rs2
    else if funct3 = 3#3 then .sltu rd rs1 rs2
    else if funct3 = 4#3 then .xor rd rs1 rs2
    else if funct3 = 5#3 then .srl rd rs1 rs2
    else if funct3 = 6#3 then .or rd rs1 rs2
    else .and rd rs1 rs2
  else if funct7 = 0x20#7 then
    if funct3 = 0#3 then .sub rd rs1 rs2
    else if funct3 = 5#3 then .sra rd rs1 rs2
    else .unknownR rd funct3 rs1 rs2 funct7
  else .unknownR rd funct3 rs1 rs2 funct7

/-- Opcode 0x13, keyed by `funct3`, and for the shifts by `imm[11:5]` (R61, D5). -/
def decodeOpImm (rd : Reg) (funct3 : Funct3) (rs1 : Reg) (imm : BitVec 12) : Instr :=
  if funct3 = 0#3 then .addi rd rs1 imm
  else if funct3 = 2#3 then .slti rd rs1 imm
  else if funct3 = 3#3 then .sltiu rd rs1 imm
  else if funct3 = 4#3 then .xori rd rs1 imm
  else if funct3 = 6#3 then .ori rd rs1 imm
  else if funct3 = 7#3 then .andi rd rs1 imm
  else if funct3 = 1#3 then
    if shiftSelector imm = 0x00#7 then .slli rd rs1 imm else .unknownIOpImm rd funct3 rs1 imm
  else
    if shiftSelector imm = 0x00#7 then .srli rd rs1 imm
    else if shiftSelector imm = 0x20#7 then .srai rd rs1 imm
    else .unknownIOpImm rd funct3 rs1 imm

/-- Opcode 0x03, keyed by `funct3` (R61). -/
def decodeLoad (rd : Reg) (funct3 : Funct3) (rs1 : Reg) (imm : BitVec 12) : Instr :=
  if funct3 = 0#3 then .lb rd rs1 imm
  else if funct3 = 1#3 then .lh rd rs1 imm
  else if funct3 = 2#3 then .lw rd rs1 imm
  else if funct3 = 4#3 then .lbu rd rs1 imm
  else if funct3 = 5#3 then .lhu rd rs1 imm
  else .unknownILoad rd funct3 rs1 imm

/-- Opcode 0x67, keyed by `funct3` (R61). -/
def decodeJalr (rd : Reg) (funct3 : Funct3) (rs1 : Reg) (imm : BitVec 12) : Instr :=
  if funct3 = 0#3 then .jalr rd rs1 imm else .unknownIJalr rd funct3 rs1 imm

/-- Opcode 0x23, keyed by `funct3` (R61). -/
def decodeStore (funct3 : Funct3) (rs1 rs2 : Reg) (imm : BitVec 12) : Instr :=
  if funct3 = 0#3 then .sb rs1 rs2 imm
  else if funct3 = 1#3 then .sh rs1 rs2 imm
  else if funct3 = 2#3 then .sw rs1 rs2 imm
  else .unknownS funct3 rs1 rs2 imm

/-- Opcode 0x63, keyed by `funct3` (R61). -/
def decodeBranch (funct3 : Funct3) (rs1 rs2 : Reg) (imm : BitVec 13) : Instr :=
  if funct3 = 0#3 then .beq rs1 rs2 imm
  else if funct3 = 1#3 then .bne rs1 rs2 imm
  else if funct3 = 4#3 then .blt rs1 rs2 imm
  else if funct3 = 5#3 then .bge rs1 rs2 imm
  else if funct3 = 6#3 then .bltu rs1 rs2 imm
  else if funct3 = 7#3 then .bgeu rs1 rs2 imm
  else .unknownB funct3 rs1 rs2 imm

/-- The whole decoder (R66): total on all words, a decode failure with the raw opcode for an opcode that is not
dispatched (R65). -/
def decode (w : Word) : Decoded :=
  if opcodeOf w = 0x33#7 then
    .instr (decodeOp (rdOf w) (funct3Of w) (rs1Of w) (rs2Of w) (funct7Of w))
  else if opcodeOf w = 0x03#7 then .instr (decodeLoad (rdOf w) (funct3Of w) (rs1Of w) (immIOf w))
  else if opcodeOf w = 0x13#7 then .instr (decodeOpImm (rdOf w) (funct3Of w) (rs1Of w) (immIOf w))
  else if opcodeOf w = 0x67#7 then .instr (decodeJalr (rdOf w) (funct3Of w) (rs1Of w) (immIOf w))
  else if opcodeOf w = 0x23#7 then .instr (decodeStore (funct3Of w) (rs1Of w) (rs2Of w) (immSOf w))
  else if opcodeOf w = 0x63#7 then .instr (decodeBranch (funct3Of w) (rs1Of w) (rs2Of w) (immBOf w))
  else if opcodeOf w = 0x37#7 then .instr (.lui (rdOf w) (immUOf w))
  else if opcodeOf w = 0x17#7 then .instr (.auipc (rdOf w) (immUOf w))
  else if opcodeOf w = 0x6F#7 then .instr (.jal (rdOf w) (immJOf w))
  else .failure (opcodeOf w)

/-- The instruction of a decode result, if it has one. -/
def Decoded.instr? : Decoded → Option Instr
  | .instr i => some i
  | .failure _ => none

/-- The decoded sequence of an input: the words in order, the decode failures dropped (R65, R122). -/
def decodeAll (ws : List Word) : List Instr := ws.filterMap fun w => (decode w).instr?

/-- The decode report of an input, one result a word (R67): it goes to the logging sink, and nothing in the block
reads it. -/
def decodeReport (ws : List Word) : List Decoded := ws.map decode

/-- An instruction whose bits are `w`, bit 0 the least significant: the low `nbits` bits with zeros above them up to 32.
A word longer than 32 bits is no instruction (R49). -/
def tableWord? (nbits w : Nat) : Option Word :=
  if nbits ≤ 32 then some (BitVec.ofNat 32 (w % 2 ^ nbits)) else none

/-- The decoder's reading of a row of spec/opcode_table.json (log entry 11). -/
def decodeTableWord (nbits w : Nat) : Option Instr :=
  (tableWord? nbits w).bind fun x => (decode x).instr?

/-! ### The views of a decoded instruction (R16) -/

/-- The opcode of an instruction (R51, R62). -/
def Instr.opcode : Instr → Opcode
  | .add _ _ _ => 0x33#7
  | .sub _ _ _ => 0x33#7
  | .sll _ _ _ => 0x33#7
  | .slt _ _ _ => 0x33#7
  | .sltu _ _ _ => 0x33#7
  | .xor _ _ _ => 0x33#7
  | .srl _ _ _ => 0x33#7
  | .sra _ _ _ => 0x33#7
  | .or _ _ _ => 0x33#7
  | .and _ _ _ => 0x33#7
  | .addi _ _ _ => 0x13#7
  | .slti _ _ _ => 0x13#7
  | .sltiu _ _ _ => 0x13#7
  | .xori _ _ _ => 0x13#7
  | .ori _ _ _ => 0x13#7
  | .andi _ _ _ => 0x13#7
  | .slli _ _ _ => 0x13#7
  | .srli _ _ _ => 0x13#7
  | .srai _ _ _ => 0x13#7
  | .lb _ _ _ => 0x03#7
  | .lh _ _ _ => 0x03#7
  | .lw _ _ _ => 0x03#7
  | .lbu _ _ _ => 0x03#7
  | .lhu _ _ _ => 0x03#7
  | .jalr _ _ _ => 0x67#7
  | .sb _ _ _ => 0x23#7
  | .sh _ _ _ => 0x23#7
  | .sw _ _ _ => 0x23#7
  | .beq _ _ _ => 0x63#7
  | .bne _ _ _ => 0x63#7
  | .blt _ _ _ => 0x63#7
  | .bge _ _ _ => 0x63#7
  | .bltu _ _ _ => 0x63#7
  | .bgeu _ _ _ => 0x63#7
  | .lui _ _ => 0x37#7
  | .auipc _ _ => 0x17#7
  | .jal _ _ => 0x6F#7
  | .unknownR _ _ _ _ _ => 0x33#7
  | .unknownIOpImm _ _ _ _ => 0x13#7
  | .unknownILoad _ _ _ _ => 0x03#7
  | .unknownIJalr _ _ _ _ => 0x67#7
  | .unknownS _ _ _ _ => 0x23#7
  | .unknownB _ _ _ _ => 0x63#7

/-- The raw fields of an instruction, the keys of its kind among them (R16, R62). -/
def Instr.fields : Instr → Fields
  | .add rd rs1 rs2 => .r rd 0#3 rs1 rs2 0x00#7
  | .sub rd rs1 rs2 => .r rd 0#3 rs1 rs2 0x20#7
  | .sll rd rs1 rs2 => .r rd 1#3 rs1 rs2 0x00#7
  | .slt rd rs1 rs2 => .r rd 2#3 rs1 rs2 0x00#7
  | .sltu rd rs1 rs2 => .r rd 3#3 rs1 rs2 0x00#7
  | .xor rd rs1 rs2 => .r rd 4#3 rs1 rs2 0x00#7
  | .srl rd rs1 rs2 => .r rd 5#3 rs1 rs2 0x00#7
  | .sra rd rs1 rs2 => .r rd 5#3 rs1 rs2 0x20#7
  | .or rd rs1 rs2 => .r rd 6#3 rs1 rs2 0x00#7
  | .and rd rs1 rs2 => .r rd 7#3 rs1 rs2 0x00#7
  | .addi rd rs1 imm => .i rd 0#3 rs1 imm
  | .slti rd rs1 imm => .i rd 2#3 rs1 imm
  | .sltiu rd rs1 imm => .i rd 3#3 rs1 imm
  | .xori rd rs1 imm => .i rd 4#3 rs1 imm
  | .ori rd rs1 imm => .i rd 6#3 rs1 imm
  | .andi rd rs1 imm => .i rd 7#3 rs1 imm
  | .slli rd rs1 imm => .i rd 1#3 rs1 imm
  | .srli rd rs1 imm => .i rd 5#3 rs1 imm
  | .srai rd rs1 imm => .i rd 5#3 rs1 imm
  | .lb rd rs1 imm => .i rd 0#3 rs1 imm
  | .lh rd rs1 imm => .i rd 1#3 rs1 imm
  | .lw rd rs1 imm => .i rd 2#3 rs1 imm
  | .lbu rd rs1 imm => .i rd 4#3 rs1 imm
  | .lhu rd rs1 imm => .i rd 5#3 rs1 imm
  | .jalr rd rs1 imm => .i rd 0#3 rs1 imm
  | .sb rs1 rs2 imm => .s 0#3 rs1 rs2 imm
  | .sh rs1 rs2 imm => .s 1#3 rs1 rs2 imm
  | .sw rs1 rs2 imm => .s 2#3 rs1 rs2 imm
  | .beq rs1 rs2 imm => .b 0#3 rs1 rs2 imm
  | .bne rs1 rs2 imm => .b 1#3 rs1 rs2 imm
  | .blt rs1 rs2 imm => .b 4#3 rs1 rs2 imm
  | .bge rs1 rs2 imm => .b 5#3 rs1 rs2 imm
  | .bltu rs1 rs2 imm => .b 6#3 rs1 rs2 imm
  | .bgeu rs1 rs2 imm => .b 7#3 rs1 rs2 imm
  | .lui rd imm => .u rd imm
  | .auipc rd imm => .u rd imm
  | .jal rd imm => .j rd imm
  | .unknownR rd funct3 rs1 rs2 funct7 => .r rd funct3 rs1 rs2 funct7
  | .unknownIOpImm rd funct3 rs1 imm => .i rd funct3 rs1 imm
  | .unknownILoad rd funct3 rs1 imm => .i rd funct3 rs1 imm
  | .unknownIJalr rd funct3 rs1 imm => .i rd funct3 rs1 imm
  | .unknownS funct3 rs1 rs2 imm => .s funct3 rs1 rs2 imm
  | .unknownB funct3 rs1 rs2 imm => .b funct3 rs1 rs2 imm

/-- The kind of an instruction (R16, R62, R63). -/
def Instr.kind : Instr → Kind
  | .add _ _ _ => .ADD
  | .sub _ _ _ => .SUB
  | .sll _ _ _ => .SLL
  | .slt _ _ _ => .SLT
  | .sltu _ _ _ => .SLTU
  | .xor _ _ _ => .XOR
  | .srl _ _ _ => .SRL
  | .sra _ _ _ => .SRA
  | .or _ _ _ => .OR
  | .and _ _ _ => .AND
  | .addi _ _ _ => .ADDI
  | .slti _ _ _ => .SLTI
  | .sltiu _ _ _ => .SLTIU
  | .xori _ _ _ => .XORI
  | .ori _ _ _ => .ORI
  | .andi _ _ _ => .ANDI
  | .slli _ _ _ => .SLLI
  | .srli _ _ _ => .SRLI
  | .srai _ _ _ => .SRAI
  | .lb _ _ _ => .LB
  | .lh _ _ _ => .LH
  | .lw _ _ _ => .LW
  | .lbu _ _ _ => .LBU
  | .lhu _ _ _ => .LHU
  | .jalr _ _ _ => .JALR
  | .sb _ _ _ => .SB
  | .sh _ _ _ => .SH
  | .sw _ _ _ => .SW
  | .beq _ _ _ => .BEQ
  | .bne _ _ _ => .BNE
  | .blt _ _ _ => .BLT
  | .bge _ _ _ => .BGE
  | .bltu _ _ _ => .BLTU
  | .bgeu _ _ _ => .BGEU
  | .lui _ _ => .LUI
  | .auipc _ _ => .AUIPC
  | .jal _ _ => .JAL
  | .unknownR _ _ _ _ _ => .UNKNOWN_R
  | .unknownIOpImm _ _ _ _ => .UNKNOWN_I
  | .unknownILoad _ _ _ _ => .UNKNOWN_I
  | .unknownIJalr _ _ _ _ => .UNKNOWN_I
  | .unknownS _ _ _ _ => .UNKNOWN_S
  | .unknownB _ _ _ _ => .UNKNOWN_B

/-- The format of a field record. -/
def Fields.fmt : Fields → Fmt
  | .r _ _ _ _ _ => .R
  | .i _ _ _ _ => .I
  | .s _ _ _ _ => .S
  | .b _ _ _ _ => .B
  | .u _ _ => .U
  | .j _ _ => .J

/-- The format tag of an instruction (R16). -/
def Instr.fmt (i : Instr) : Fmt := i.fields.fmt

/-- The name of a kind, as the meta's display name and the opcode table spell it (R17, R63). -/
def Kind.name : Kind → String
  | .ADD => "ADD"
  | .SUB => "SUB"
  | .SLL => "SLL"
  | .SLT => "SLT"
  | .SLTU => "SLTU"
  | .XOR => "XOR"
  | .SRL => "SRL"
  | .SRA => "SRA"
  | .OR => "OR"
  | .AND => "AND"
  | .ADDI => "ADDI"
  | .SLTI => "SLTI"
  | .SLTIU => "SLTIU"
  | .XORI => "XORI"
  | .ORI => "ORI"
  | .ANDI => "ANDI"
  | .SLLI => "SLLI"
  | .SRLI => "SRLI"
  | .SRAI => "SRAI"
  | .LB => "LB"
  | .LH => "LH"
  | .LW => "LW"
  | .LBU => "LBU"
  | .LHU => "LHU"
  | .JALR => "JALR"
  | .SB => "SB"
  | .SH => "SH"
  | .SW => "SW"
  | .BEQ => "BEQ"
  | .BNE => "BNE"
  | .BLT => "BLT"
  | .BGE => "BGE"
  | .BLTU => "BLTU"
  | .BGEU => "BGEU"
  | .LUI => "LUI"
  | .AUIPC => "AUIPC"
  | .JAL => "JAL"
  | .UNKNOWN_R => "UNKNOWN_R"
  | .UNKNOWN_I => "UNKNOWN_I"
  | .UNKNOWN_S => "UNKNOWN_S"
  | .UNKNOWN_B => "UNKNOWN_B"

/-- Kind resolution as R61 writes it: from the opcode and the extracted fields alone. `none` where the fields are not
of the opcode's format, or the opcode is not dispatched. -/
def resolveKind (opc : Opcode) (f : Fields) : Option Kind :=
  match f with
  | .r _ funct3 _ _ funct7 => if opc = 0x33#7 then some (resolveR funct3 funct7) else none
  | .i _ funct3 _ imm =>
    if opc = 0x13#7 then some (resolveOpImm funct3 (shiftSelector imm))
    else if opc = 0x03#7 then some (resolveLoad funct3)
    else if opc = 0x67#7 then some (if funct3 = 0#3 then .JALR else .UNKNOWN_I)
    else none
  | .s funct3 _ _ _ => if opc = 0x23#7 then some (resolveStore funct3) else none
  | .b funct3 _ _ _ => if opc = 0x63#7 then some (resolveBranch funct3) else none
  | .u _ _ => if opc = 0x37#7 then some .LUI else if opc = 0x17#7 then some .AUIPC else none
  | .j _ _ => if opc = 0x6F#7 then some .JAL else none
where
  /-- Table R of R62. -/
  resolveR (funct3 : Funct3) (funct7 : Funct7) : Kind :=
    match funct3.toNat, funct7.toNat with
    | 0, 0x00 => .ADD | 0, 0x20 => .SUB | 1, 0x00 => .SLL | 2, 0x00 => .SLT | 3, 0x00 => .SLTU
    | 4, 0x00 => .XOR | 5, 0x00 => .SRL | 5, 0x20 => .SRA | 6, 0x00 => .OR | 7, 0x00 => .AND
    | _, _ => .UNKNOWN_R
  /-- Table OP-IMM of R62. -/
  resolveOpImm (funct3 : Funct3) (selector : BitVec 7) : Kind :=
    match funct3.toNat, selector.toNat with
    | 0, _ => .ADDI | 2, _ => .SLTI | 3, _ => .SLTIU | 4, _ => .XORI | 6, _ => .ORI | 7, _ => .ANDI
    | 1, 0x00 => .SLLI | 5, 0x00 => .SRLI | 5, 0x20 => .SRAI
    | _, _ => .UNKNOWN_I
  /-- Table LOAD of R62. -/
  resolveLoad (funct3 : Funct3) : Kind :=
    match funct3.toNat with
    | 0 => .LB | 1 => .LH | 2 => .LW | 4 => .LBU | 5 => .LHU
    | _ => .UNKNOWN_I
  /-- Table STORE of R62. -/
  resolveStore (funct3 : Funct3) : Kind :=
    match funct3.toNat with
    | 0 => .SB | 1 => .SH | 2 => .SW
    | _ => .UNKNOWN_S
  /-- Table BRANCH of R62. -/
  resolveBranch (funct3 : Funct3) : Kind :=
    match funct3.toNat with
    | 0 => .BEQ | 1 => .BNE | 4 => .BLT | 5 => .BGE | 6 => .BLTU | 7 => .BGEU
    | _ => .UNKNOWN_B

/-! ### The encoder, from the field positions of R52 to R57 -/

/-- An R word (R52). -/
def encodeR (funct7 : Funct7) (rs2 rs1 : Reg) (funct3 : Funct3) (rd : Reg) (opc : Opcode) : Word :=
  funct7 ++ rs2 ++ rs1 ++ funct3 ++ rd ++ opc

/-- An I word (R53). -/
def encodeI (imm : BitVec 12) (rs1 : Reg) (funct3 : Funct3) (rd : Reg) (opc : Opcode) : Word :=
  imm ++ rs1 ++ funct3 ++ rd ++ opc

/-- An S word (R54): `imm[11:5]` above `rs2`, `imm[4:0]` in the place of `rd`. -/
def encodeS (imm : BitVec 12) (rs2 rs1 : Reg) (funct3 : Funct3) (opc : Opcode) : Word :=
  imm.extractLsb' 5 7 ++ rs2 ++ rs1 ++ funct3 ++ imm.extractLsb' 0 5 ++ opc

/-- A B word (R55): `imm[12]`, `imm[10:5]`, the registers and `funct3`, `imm[4:1]`, `imm[11]`. -/
def encodeB (imm : BitVec 13) (rs2 rs1 : Reg) (funct3 : Funct3) (opc : Opcode) : Word :=
  imm.extractLsb' 12 1 ++ imm.extractLsb' 5 6 ++ rs2 ++ rs1 ++ funct3 ++ imm.extractLsb' 1 4 ++
    imm.extractLsb' 11 1 ++ opc

/-- A U word (R56). -/
def encodeU (imm : BitVec 20) (rd : Reg) (opc : Opcode) : Word := imm ++ rd ++ opc

/-- A J word (R57): `imm[20]`, `imm[10:1]`, `imm[11]`, `imm[19:12]`. -/
def encodeJ (imm : BitVec 21) (rd : Reg) (opc : Opcode) : Word :=
  imm.extractLsb' 20 1 ++ imm.extractLsb' 1 10 ++ imm.extractLsb' 11 1 ++ imm.extractLsb' 12 8 ++ rd ++ opc

/-- The word of an instruction (R62 for the keys, R52 to R57 for the positions). -/
def encode : Instr → Word
  | .add rd rs1 rs2 => encodeR 0x00#7 rs2 rs1 0#3 rd 0x33#7
  | .sub rd rs1 rs2 => encodeR 0x20#7 rs2 rs1 0#3 rd 0x33#7
  | .sll rd rs1 rs2 => encodeR 0x00#7 rs2 rs1 1#3 rd 0x33#7
  | .slt rd rs1 rs2 => encodeR 0x00#7 rs2 rs1 2#3 rd 0x33#7
  | .sltu rd rs1 rs2 => encodeR 0x00#7 rs2 rs1 3#3 rd 0x33#7
  | .xor rd rs1 rs2 => encodeR 0x00#7 rs2 rs1 4#3 rd 0x33#7
  | .srl rd rs1 rs2 => encodeR 0x00#7 rs2 rs1 5#3 rd 0x33#7
  | .sra rd rs1 rs2 => encodeR 0x20#7 rs2 rs1 5#3 rd 0x33#7
  | .or rd rs1 rs2 => encodeR 0x00#7 rs2 rs1 6#3 rd 0x33#7
  | .and rd rs1 rs2 => encodeR 0x00#7 rs2 rs1 7#3 rd 0x33#7
  | .addi rd rs1 imm => encodeI imm rs1 0#3 rd 0x13#7
  | .slti rd rs1 imm => encodeI imm rs1 2#3 rd 0x13#7
  | .sltiu rd rs1 imm => encodeI imm rs1 3#3 rd 0x13#7
  | .xori rd rs1 imm => encodeI imm rs1 4#3 rd 0x13#7
  | .ori rd rs1 imm => encodeI imm rs1 6#3 rd 0x13#7
  | .andi rd rs1 imm => encodeI imm rs1 7#3 rd 0x13#7
  | .slli rd rs1 imm => encodeI imm rs1 1#3 rd 0x13#7
  | .srli rd rs1 imm => encodeI imm rs1 5#3 rd 0x13#7
  | .srai rd rs1 imm => encodeI imm rs1 5#3 rd 0x13#7
  | .lb rd rs1 imm => encodeI imm rs1 0#3 rd 0x03#7
  | .lh rd rs1 imm => encodeI imm rs1 1#3 rd 0x03#7
  | .lw rd rs1 imm => encodeI imm rs1 2#3 rd 0x03#7
  | .lbu rd rs1 imm => encodeI imm rs1 4#3 rd 0x03#7
  | .lhu rd rs1 imm => encodeI imm rs1 5#3 rd 0x03#7
  | .jalr rd rs1 imm => encodeI imm rs1 0#3 rd 0x67#7
  | .sb rs1 rs2 imm => encodeS imm rs2 rs1 0#3 0x23#7
  | .sh rs1 rs2 imm => encodeS imm rs2 rs1 1#3 0x23#7
  | .sw rs1 rs2 imm => encodeS imm rs2 rs1 2#3 0x23#7
  | .beq rs1 rs2 imm => encodeB imm rs2 rs1 0#3 0x63#7
  | .bne rs1 rs2 imm => encodeB imm rs2 rs1 1#3 0x63#7
  | .blt rs1 rs2 imm => encodeB imm rs2 rs1 4#3 0x63#7
  | .bge rs1 rs2 imm => encodeB imm rs2 rs1 5#3 0x63#7
  | .bltu rs1 rs2 imm => encodeB imm rs2 rs1 6#3 0x63#7
  | .bgeu rs1 rs2 imm => encodeB imm rs2 rs1 7#3 0x63#7
  | .lui rd imm => encodeU imm rd 0x37#7
  | .auipc rd imm => encodeU imm rd 0x17#7
  | .jal rd imm => encodeJ imm rd 0x6F#7
  | .unknownR rd funct3 rs1 rs2 funct7 => encodeR funct7 rs2 rs1 funct3 rd 0x33#7
  | .unknownIOpImm rd funct3 rs1 imm => encodeI imm rs1 funct3 rd 0x13#7
  | .unknownILoad rd funct3 rs1 imm => encodeI imm rs1 funct3 rd 0x03#7
  | .unknownIJalr rd funct3 rs1 imm => encodeI imm rs1 funct3 rd 0x67#7
  | .unknownS funct3 rs1 rs2 imm => encodeS imm rs2 rs1 funct3 0x23#7
  | .unknownB funct3 rs1 rs2 imm => encodeB imm rs2 rs1 funct3 0x63#7

/-! ### The opcode table as data -/

/-- One row of spec/opcode_table.json: a word `w` is of the row when `w &&& mask = pattern`. -/
structure OpcodeRow where
  kind : Kind
  mask : Word
  pattern : Word
deriving DecidableEq, Repr

/-- The rows of the R kinds. -/
def rRows : List OpcodeRow :=
  [ { kind := .ADD, mask := 0xFE00707F#32, pattern := 0x00000033#32 },
    { kind := .SUB, mask := 0xFE00707F#32, pattern := 0x40000033#32 },
    { kind := .SLL, mask := 0xFE00707F#32, pattern := 0x00001033#32 },
    { kind := .SLT, mask := 0xFE00707F#32, pattern := 0x00002033#32 },
    { kind := .SLTU, mask := 0xFE00707F#32, pattern := 0x00003033#32 },
    { kind := .XOR, mask := 0xFE00707F#32, pattern := 0x00004033#32 },
    { kind := .SRL, mask := 0xFE00707F#32, pattern := 0x00005033#32 },
    { kind := .SRA, mask := 0xFE00707F#32, pattern := 0x40005033#32 },
    { kind := .OR, mask := 0xFE00707F#32, pattern := 0x00006033#32 },
    { kind := .AND, mask := 0xFE00707F#32, pattern := 0x00007033#32 } ]

/-- The rows of the I kinds. -/
def iRows : List OpcodeRow :=
  [ { kind := .ADDI, mask := 0x0000707F#32, pattern := 0x00000013#32 },
    { kind := .SLTI, mask := 0x0000707F#32, pattern := 0x00002013#32 },
    { kind := .SLTIU, mask := 0x0000707F#32, pattern := 0x00003013#32 },
    { kind := .XORI, mask := 0x0000707F#32, pattern := 0x00004013#32 },
    { kind := .ORI, mask := 0x0000707F#32, pattern := 0x00006013#32 },
    { kind := .ANDI, mask := 0x0000707F#32, pattern := 0x00007013#32 },
    { kind := .SLLI, mask := 0xFE00707F#32, pattern := 0x00001013#32 },
    { kind := .SRLI, mask := 0xFE00707F#32, pattern := 0x00005013#32 },
    { kind := .SRAI, mask := 0xFE00707F#32, pattern := 0x40005013#32 },
    { kind := .LB, mask := 0x0000707F#32, pattern := 0x00000003#32 },
    { kind := .LH, mask := 0x0000707F#32, pattern := 0x00001003#32 },
    { kind := .LW, mask := 0x0000707F#32, pattern := 0x00002003#32 },
    { kind := .LBU, mask := 0x0000707F#32, pattern := 0x00004003#32 },
    { kind := .LHU, mask := 0x0000707F#32, pattern := 0x00005003#32 },
    { kind := .JALR, mask := 0x0000707F#32, pattern := 0x00000067#32 } ]

/-- The rows of the S, B, U and J kinds. -/
def sbujRows : List OpcodeRow :=
  [ { kind := .SB, mask := 0x0000707F#32, pattern := 0x00000023#32 },
    { kind := .SH, mask := 0x0000707F#32, pattern := 0x00001023#32 },
    { kind := .SW, mask := 0x0000707F#32, pattern := 0x00002023#32 },
    { kind := .BEQ, mask := 0x0000707F#32, pattern := 0x00000063#32 },
    { kind := .BNE, mask := 0x0000707F#32, pattern := 0x00001063#32 },
    { kind := .BLT, mask := 0x0000707F#32, pattern := 0x00004063#32 },
    { kind := .BGE, mask := 0x0000707F#32, pattern := 0x00005063#32 },
    { kind := .BLTU, mask := 0x0000707F#32, pattern := 0x00006063#32 },
    { kind := .BGEU, mask := 0x0000707F#32, pattern := 0x00007063#32 },
    { kind := .LUI, mask := 0x0000007F#32, pattern := 0x00000037#32 },
    { kind := .AUIPC, mask := 0x0000007F#32, pattern := 0x00000017#32 },
    { kind := .JAL, mask := 0x0000007F#32, pattern := 0x0000006F#32 } ]

/-- The fallback rows: they apply only to a word that no kind row matches (R63). -/
def unknownRows : List OpcodeRow :=
  [ { kind := .UNKNOWN_R, mask := 0x0000007F#32, pattern := 0x00000033#32 },
    { kind := .UNKNOWN_I, mask := 0x0000007F#32, pattern := 0x00000013#32 },
    { kind := .UNKNOWN_I, mask := 0x0000007F#32, pattern := 0x00000003#32 },
    { kind := .UNKNOWN_I, mask := 0x0000007F#32, pattern := 0x00000067#32 },
    { kind := .UNKNOWN_S, mask := 0x0000007F#32, pattern := 0x00000023#32 },
    { kind := .UNKNOWN_B, mask := 0x0000007F#32, pattern := 0x00000063#32 } ]

/-- The 37 kind rows. -/
def kindRows : List OpcodeRow := rRows ++ iRows ++ sbujRows

/-- Whether a word is of a row. -/
def OpcodeRow.hits (row : OpcodeRow) (w : Word) : Bool := w &&& row.mask == row.pattern

/-- The kind the opcode table gives a word: its kind row, else its fallback row, else none. -/
def tableKind (w : Word) : Option Kind :=
  ((kindRows.find? (·.hits w)).orElse fun _ => unknownRows.find? (·.hits w)).map (·.kind)

end Sys2Proof
end

