-- ==== Sys2Proof/Machine/State.lean ====
section
/-! DEFINITION. The engine state (R22, R26) as plain data, the reasons a step can stop, and the state after reset. -/

namespace Sys2Proof.Machine

/-- What a slot holds (R22). -/
inductive Body where
  | real (i : Instr)
  | bubble
deriving DecidableEq, Repr

/-- A pipeline entry (R22). `inFlight` is the entry's membership in the set `inflight` of R26 (log entry 7). -/
structure Entry where
  body : Body
  /-- The ordinal of a real entry in the decoded input, -1 for a bubble (R23). -/
  id : Int
  programCounter : PC
  originalProgramCounter : PC
  currentStage : Stage
  hasStarted : Bool
  hasCompleted : Bool
  inFlight : Bool
deriving DecidableEq, Repr

/-- The engine state (R26): the sequence with the in-flight set as a bit of each entry, the cycle counter and the three
switches; and beside it the model parameters, which are configuration and which no rule writes (R29, log entry 1). -/
structure State where
  seq : List Entry
  cycle : Nat
  cfg : Cfg
  params : Params
deriving DecidableEq, Repr

/-- The block raises no exception, trap or interrupt for any word, any instruction kind and any engine state (R108):
no step faults, so there is no fault to name (log entry 17). Nothing raises one; safe. -/
inductive Fault where
deriving DecidableEq, Repr

/-- Why a step has no meaning. -/
inductive Refusal where
  /-- Raised by an arm of `exec` for an instruction that has no meaning yet; none does here. Safe. -/
  | notModelled (mnemonic : String)
  /-- Raised by every step of a run whose `P_basePC` is not a multiple of 4 (R110). Safe: nothing is claimed of it. -/
  | misalignedBasePC
  /-- Raised by a step of a run in which a slot would stand at an offset of 2^32 or more (R39, R110). Safe: nothing is
  claimed of it. -/
  | pcOutOfRange
deriving DecidableEq, Repr

/-- The machine right after reset with no program loaded (R34 with the empty decoded sequence): no entry, nothing in
flight, cycle 0. The run inputs have no reset value in the spec: DESIGN CHOICE all off (log entry 3), unsafe to rely on.
The parameters are at the defaults of R6 (log entry 4). -/
def State.reset : State :=
  { seq := [], cycle := 0
    cfg := { forwarding := false, dataHazardEnabled := false, controlHazardEnabled := false }
    params := Params.specDefault }

end Sys2Proof.Machine
end

