-- ==== Sys2Proof/Machine/Operands.lean ====
section
/-! DEFINITION. The operand forms: which register indices an instruction of each shape reads and writes, and the stage
arithmetic they are timed by. -/

namespace Sys2Proof

/-- The source indices in order (R17). -/
def SourceRegs.toList : SourceRegs → List Reg
  | .none => []
  | .one r => [r]
  | .two r1 r2 => [r1, r2]

/-- The ordinal of a stage (R15). All stage arithmetic is done on it in the integers (R10). -/
def Stage.ordinal : Stage → Int
  | .notStarted => 0
  | .IF => 1
  | .ID => 2
  | .EX => 3
  | .MEM => 4
  | .WB => 5

/-- One stage on (R137). DEDUCED: past WB there is no stage ordinal (R15), so WB stays; no reachable state advances an
entry in WB (log entry 6). -/
def Stage.next : Stage → Stage
  | .notStarted => .IF
  | .IF => .ID
  | .ID => .EX
  | .EX => .MEM
  | .MEM => .WB
  | .WB => .WB

/-- The registers an instruction reads and the one it writes. -/
structure Operands where
  sources : SourceRegs
  dest : Option Reg
deriving DecidableEq, Repr

/-- `rd`, `rs1`, `rs2`: reads both sources, writes `rd` (R kinds). -/
def Operands.rdRs1Rs2 (rd rs1 rs2 : Reg) : Operands := { sources := .two rs1 rs2, dest := some rd }

/-- `rd`, `rs1`, an immediate: reads `rs1`, writes `rd` (I kinds). -/
def Operands.rdRs1 (rd rs1 : Reg) : Operands := { sources := .one rs1, dest := some rd }

/-- `rs1`, `rs2`, an immediate: reads both, writes nothing (S and B kinds). -/
def Operands.rs1Rs2 (rs1 rs2 : Reg) : Operands := { sources := .two rs1 rs2, dest := none }

/-- `rd` and an immediate: reads nothing, writes `rd` (U and J kinds). -/
def Operands.rdOnly (rd : Reg) : Operands := { sources := .none, dest := some rd }

/-- No register effects (UNKNOWN kinds, R64; the bubble, R126). -/
def Operands.empty : Operands := { sources := .none, dest := none }

end Sys2Proof
end

