-- ==== Sys2Proof/Machine/Flags.lean ====
section
/-! DEFINITION. Every flag of the block: the four classification flags of a kind, the two flags derived from the
operands (R17, R18), and the completion flag of an entry (R137). There are no condition codes (R31). -/

namespace Sys2Proof

/-- The classification flags of a kind (R17). -/
structure ClassFlags where
  isLoad : Bool
  isStore : Bool
  isBranch : Bool
  isJump : Bool
deriving DecidableEq, Repr

def ClassFlags.none : ClassFlags := { isLoad := false, isStore := false, isBranch := false, isJump := false }
def ClassFlags.load : ClassFlags := { ClassFlags.none with isLoad := true }
def ClassFlags.store : ClassFlags := { ClassFlags.none with isStore := true }
def ClassFlags.branch : ClassFlags := { ClassFlags.none with isBranch := true }
def ClassFlags.jump : ClassFlags := { ClassFlags.none with isJump := true }

/-- `writesRegister` holds exactly when there is a destination (R18). -/
def InstructionMeta.writesRegister (m : InstructionMeta) : Bool := m.destReg.isSome

/-- `readsRegister` holds exactly when there is a source (R18). -/
def InstructionMeta.readsRegister (m : InstructionMeta) : Bool := !m.sourceRegs.toList.isEmpty

/-- A participant of the control comparator: a branch or a jump (R134). -/
def InstructionMeta.isControl (m : InstructionMeta) : Bool := m.isBranch || m.isJump

/-- The completion test of sub-step 1: the stage reaches or exceeds the stage count (R137). -/
def Stage.completes (s : Stage) : Bool := decide ((nStages : Int) ≤ s.ordinal)

end Sys2Proof
end

