-- ==== Sys2Proof/Machine/Meta.lean ====
section
/-! DEFINITION. The metadata model (R17): the InstructionMeta of every kind, one definition each, and of the bubble.
An immediate and a key take no part in the metadata (R59, R61), so a meta has only the register operands as arguments. -/

namespace Sys2Proof.Machine

/-- A meta from its parts; every kind consumes in ID (R19). -/
def mkMeta (name : String) (flags : ClassFlags) (ops : Operands) (produceStage : Stage) : InstructionMeta :=
  { name := name
    isLoad := flags.isLoad, isStore := flags.isStore, isBranch := flags.isBranch, isJump := flags.isJump
    sourceRegs := ops.sources, destReg := ops.dest
    produceStage := produceStage, consumeStage := .ID }

/-- ADD (R71). -/
def metaAdd (rd rs1 rs2 : Reg) : InstructionMeta :=
  mkMeta "ADD" .none (.rdRs1Rs2 rd rs1 rs2) .EX

/-- SUB (R72). -/
def metaSub (rd rs1 rs2 : Reg) : InstructionMeta :=
  mkMeta "SUB" .none (.rdRs1Rs2 rd rs1 rs2) .EX

/-- SLL (R73). -/
def metaSll (rd rs1 rs2 : Reg) : InstructionMeta :=
  mkMeta "SLL" .none (.rdRs1Rs2 rd rs1 rs2) .EX

/-- SLT (R74). -/
def metaSlt (rd rs1 rs2 : Reg) : InstructionMeta :=
  mkMeta "SLT" .none (.rdRs1Rs2 rd rs1 rs2) .EX

/-- SLTU (R75). -/
def metaSltu (rd rs1 rs2 : Reg) : InstructionMeta :=
  mkMeta "SLTU" .none (.rdRs1Rs2 rd rs1 rs2) .EX

/-- XOR (R76). -/
def metaXor (rd rs1 rs2 : Reg) : InstructionMeta :=
  mkMeta "XOR" .none (.rdRs1Rs2 rd rs1 rs2) .EX

/-- SRL (R77). -/
def metaSrl (rd rs1 rs2 : Reg) : InstructionMeta :=
  mkMeta "SRL" .none (.rdRs1Rs2 rd rs1 rs2) .EX

/-- SRA (R78). -/
def metaSra (rd rs1 rs2 : Reg) : InstructionMeta :=
  mkMeta "SRA" .none (.rdRs1Rs2 rd rs1 rs2) .EX

/-- OR (R79). -/
def metaOr (rd rs1 rs2 : Reg) : InstructionMeta :=
  mkMeta "OR" .none (.rdRs1Rs2 rd rs1 rs2) .EX

/-- AND (R80). -/
def metaAnd (rd rs1 rs2 : Reg) : InstructionMeta :=
  mkMeta "AND" .none (.rdRs1Rs2 rd rs1 rs2) .EX

/-- ADDI (R81). -/
def metaAddi (rd rs1 : Reg) : InstructionMeta :=
  mkMeta "ADDI" .none (.rdRs1 rd rs1) .EX

/-- SLTI (R82). -/
def metaSlti (rd rs1 : Reg) : InstructionMeta :=
  mkMeta "SLTI" .none (.rdRs1 rd rs1) .EX

/-- SLTIU (R83). -/
def metaSltiu (rd rs1 : Reg) : InstructionMeta :=
  mkMeta "SLTIU" .none (.rdRs1 rd rs1) .EX

/-- XORI (R84). -/
def metaXori (rd rs1 : Reg) : InstructionMeta :=
  mkMeta "XORI" .none (.rdRs1 rd rs1) .EX

/-- ORI (R85). -/
def metaOri (rd rs1 : Reg) : InstructionMeta :=
  mkMeta "ORI" .none (.rdRs1 rd rs1) .EX

/-- ANDI (R86). -/
def metaAndi (rd rs1 : Reg) : InstructionMeta :=
  mkMeta "ANDI" .none (.rdRs1 rd rs1) .EX

/-- SLLI (R87). -/
def metaSlli (rd rs1 : Reg) : InstructionMeta :=
  mkMeta "SLLI" .none (.rdRs1 rd rs1) .EX

/-- SRLI (R88). -/
def metaSrli (rd rs1 : Reg) : InstructionMeta :=
  mkMeta "SRLI" .none (.rdRs1 rd rs1) .EX

/-- SRAI (R89). -/
def metaSrai (rd rs1 : Reg) : InstructionMeta :=
  mkMeta "SRAI" .none (.rdRs1 rd rs1) .EX

/-- LB (R90). -/
def metaLb (rd rs1 : Reg) : InstructionMeta :=
  mkMeta "LB" .load (.rdRs1 rd rs1) .MEM

/-- LH (R91). -/
def metaLh (rd rs1 : Reg) : InstructionMeta :=
  mkMeta "LH" .load (.rdRs1 rd rs1) .MEM

/-- LW (R92). -/
def metaLw (rd rs1 : Reg) : InstructionMeta :=
  mkMeta "LW" .load (.rdRs1 rd rs1) .MEM

/-- LBU (R93). -/
def metaLbu (rd rs1 : Reg) : InstructionMeta :=
  mkMeta "LBU" .load (.rdRs1 rd rs1) .MEM

/-- LHU (R94). -/
def metaLhu (rd rs1 : Reg) : InstructionMeta :=
  mkMeta "LHU" .load (.rdRs1 rd rs1) .MEM

/-- JALR (R95). -/
def metaJalr (rd rs1 : Reg) : InstructionMeta :=
  mkMeta "JALR" .jump (.rdRs1 rd rs1) .EX

/-- SB (R96). -/
def metaSb (rs1 rs2 : Reg) : InstructionMeta :=
  mkMeta "SB" .store (.rs1Rs2 rs1 rs2) .EX

/-- SH (R97). -/
def metaSh (rs1 rs2 : Reg) : InstructionMeta :=
  mkMeta "SH" .store (.rs1Rs2 rs1 rs2) .EX

/-- SW (R98). -/
def metaSw (rs1 rs2 : Reg) : InstructionMeta :=
  mkMeta "SW" .store (.rs1Rs2 rs1 rs2) .EX

/-- BEQ (R99). -/
def metaBeq (rs1 rs2 : Reg) : InstructionMeta :=
  mkMeta "BEQ" .branch (.rs1Rs2 rs1 rs2) .EX

/-- BNE (R100). -/
def metaBne (rs1 rs2 : Reg) : InstructionMeta :=
  mkMeta "BNE" .branch (.rs1Rs2 rs1 rs2) .EX

/-- BLT (R101). -/
def metaBlt (rs1 rs2 : Reg) : InstructionMeta :=
  mkMeta "BLT" .branch (.rs1Rs2 rs1 rs2) .EX

/-- BGE (R102). -/
def metaBge (rs1 rs2 : Reg) : InstructionMeta :=
  mkMeta "BGE" .branch (.rs1Rs2 rs1 rs2) .EX

/-- BLTU (R103). -/
def metaBltu (rs1 rs2 : Reg) : InstructionMeta :=
  mkMeta "BLTU" .branch (.rs1Rs2 rs1 rs2) .EX

/-- BGEU (R104). -/
def metaBgeu (rs1 rs2 : Reg) : InstructionMeta :=
  mkMeta "BGEU" .branch (.rs1Rs2 rs1 rs2) .EX

/-- LUI (R105). -/
def metaLui (rd : Reg) : InstructionMeta :=
  mkMeta "LUI" .none (.rdOnly rd) .EX

/-- AUIPC (R106). -/
def metaAuipc (rd : Reg) : InstructionMeta :=
  mkMeta "AUIPC" .none (.rdOnly rd) .EX

/-- JAL (R107). -/
def metaJal (rd : Reg) : InstructionMeta :=
  mkMeta "JAL" .jump (.rdOnly rd) .EX

/-- UNKNOWN_R (R64). -/
def metaUnknownR : InstructionMeta :=
  mkMeta "UNKNOWN_R" .none .empty .EX

/-- UNKNOWN_I (R64). -/
def metaUnknownIOpImm : InstructionMeta :=
  mkMeta "UNKNOWN_I" .none .empty .EX

/-- UNKNOWN_I (R64). -/
def metaUnknownILoad : InstructionMeta :=
  mkMeta "UNKNOWN_I" .none .empty .EX

/-- UNKNOWN_I (R64). -/
def metaUnknownIJalr : InstructionMeta :=
  mkMeta "UNKNOWN_I" .none .empty .EX

/-- UNKNOWN_S (R64). -/
def metaUnknownS : InstructionMeta :=
  mkMeta "UNKNOWN_S" .none .empty .EX

/-- UNKNOWN_B (R64). -/
def metaUnknownB : InstructionMeta :=
  mkMeta "UNKNOWN_B" .none .empty .EX

/-- The bubble (R126). -/
def bubbleMeta : InstructionMeta := mkMeta "NOP" .none .empty .EX

/-- The metadata of a decoded instruction (R66: `metaOf`). -/
def metaOf : Instr → InstructionMeta
  | .add rd rs1 rs2 => metaAdd rd rs1 rs2
  | .sub rd rs1 rs2 => metaSub rd rs1 rs2
  | .sll rd rs1 rs2 => metaSll rd rs1 rs2
  | .slt rd rs1 rs2 => metaSlt rd rs1 rs2
  | .sltu rd rs1 rs2 => metaSltu rd rs1 rs2
  | .xor rd rs1 rs2 => metaXor rd rs1 rs2
  | .srl rd rs1 rs2 => metaSrl rd rs1 rs2
  | .sra rd rs1 rs2 => metaSra rd rs1 rs2
  | .or rd rs1 rs2 => metaOr rd rs1 rs2
  | .and rd rs1 rs2 => metaAnd rd rs1 rs2
  | .addi rd rs1 _ => metaAddi rd rs1
  | .slti rd rs1 _ => metaSlti rd rs1
  | .sltiu rd rs1 _ => metaSltiu rd rs1
  | .xori rd rs1 _ => metaXori rd rs1
  | .ori rd rs1 _ => metaOri rd rs1
  | .andi rd rs1 _ => metaAndi rd rs1
  | .slli rd rs1 _ => metaSlli rd rs1
  | .srli rd rs1 _ => metaSrli rd rs1
  | .srai rd rs1 _ => metaSrai rd rs1
  | .lb rd rs1 _ => metaLb rd rs1
  | .lh rd rs1 _ => metaLh rd rs1
  | .lw rd rs1 _ => metaLw rd rs1
  | .lbu rd rs1 _ => metaLbu rd rs1
  | .lhu rd rs1 _ => metaLhu rd rs1
  | .jalr rd rs1 _ => metaJalr rd rs1
  | .sb rs1 rs2 _ => metaSb rs1 rs2
  | .sh rs1 rs2 _ => metaSh rs1 rs2
  | .sw rs1 rs2 _ => metaSw rs1 rs2
  | .beq rs1 rs2 _ => metaBeq rs1 rs2
  | .bne rs1 rs2 _ => metaBne rs1 rs2
  | .blt rs1 rs2 _ => metaBlt rs1 rs2
  | .bge rs1 rs2 _ => metaBge rs1 rs2
  | .bltu rs1 rs2 _ => metaBltu rs1 rs2
  | .bgeu rs1 rs2 _ => metaBgeu rs1 rs2
  | .lui rd _ => metaLui rd
  | .auipc rd _ => metaAuipc rd
  | .jal rd _ => metaJal rd
  | .unknownR _ _ _ _ _ => metaUnknownR
  | .unknownIOpImm _ _ _ _ => metaUnknownIOpImm
  | .unknownILoad _ _ _ _ => metaUnknownILoad
  | .unknownIJalr _ _ _ _ => metaUnknownIJalr
  | .unknownS _ _ _ _ => metaUnknownS
  | .unknownB _ _ _ _ => metaUnknownB

/-- `meta(e)` of an entry (R22). -/
def Body.metadata : Body → InstructionMeta
  | .real i => metaOf i
  | .bubble => bubbleMeta

/-- A decoded instruction with every part of R16 beside it: the format, the opcode, the raw fields, the kind and the
metadata, all functions of the constructor and its fields. -/
structure DecodedInstruction where
  fmt : Fmt
  opcode : Opcode
  fields : Fields
  kind : Kind
  metadata : InstructionMeta
deriving DecidableEq, Repr

/-- The record R66 returns. -/
def decodedInstruction (i : Instr) : DecodedInstruction :=
  { fmt := i.fmt, opcode := i.opcode, fields := i.fields, kind := i.kind, metadata := metaOf i }

end Sys2Proof.Machine
end

