-- ==== Sys2Proof/Machine/Ops.lean ====
section
/-! DEFINITION. The named operations on the engine state: the sub-steps of R136 other than the arbitration, the
candidate, the two limits of R110, the end-of-run test. There is no operation for taking an exception or returning from
one, because the block has neither (R108, R113, R114). -/

namespace Sys2Proof.Machine

/-! ### Entries -/

/-- The metadata of an entry (R22). -/
def Entry.metadata (e : Entry) : InstructionMeta := e.body.metadata

/-- Whether the entry is a real instruction. -/
def Entry.isReal (e : Entry) : Bool :=
  match e.body with
  | .real _ => true
  | .bubble => false

/-- The instruction of a real entry. -/
def Entry.instr? (e : Entry) : Option Instr :=
  match e.body with
  | .real i => some i
  | .bubble => none

/-- Not started and not completed: what the candidate is chosen by (R138). -/
def Entry.isWaiting (e : Entry) : Bool := !e.hasStarted && !e.hasCompleted

/-- Sub-step 1 on one entry (R137): a member of the in-flight set moves one stage on, and is completed when that reaches
the stage count. -/
def Entry.advance (e : Entry) : Entry :=
  if e.inFlight then
    { e with currentStage := e.currentStage.next, hasCompleted := e.hasCompleted || e.currentStage.next.completes }
  else e

/-- The admission of a candidate (R139): started, in IF, in flight. -/
def Entry.enter (e : Entry) : Entry := { e with hasStarted := true, currentStage := .IF, inFlight := true }

/-- An entry moved one slot later by a bubble (R140). -/
def Entry.shift (e : Entry) : Entry :=
  { e with programCounter := e.programCounter + BitVec.ofNat 32 pcIncrement }

/-- Sub-step 4 on one entry (R141): a completed entry leaves the in-flight set. -/
def Entry.drop (e : Entry) : Entry := { e with inFlight := e.inFlight && !e.hasCompleted }

/-- The bubble inserted before a candidate whose program counter is `pc` (R127). -/
def newBubble (pc : PC) : Entry :=
  { body := .bubble, id := -1, programCounter := pc, originalProgramCounter := pc
    currentStage := .IF, hasStarted := true, hasCompleted := false, inFlight := true }

/-! ### The candidate -/

/-- The sequence cut at the candidate. -/
structure Cut where
  before : List Entry
  cand : Entry
  after : List Entry
deriving DecidableEq, Repr

/-- The list cut at its first waiting entry, if it has one (R138). -/
def cutAtCandidate : List Entry → Option Cut
  | [] => none
  | e :: es =>
    if e.isWaiting then some { before := [], cand := e, after := es }
    else (cutAtCandidate es).map fun c => { c with before := e :: c.before }

/-- The candidate of a state, as the cut of the sequence at it (R138). -/
def State.candidate? (s : State) : Option Cut := cutAtCandidate s.seq

/-! ### The state -/

/-- The in-flight set (R26, R27), in program order. -/
def State.inflight (s : State) : List Entry := s.seq.filter (·.inFlight)

/-- The cycle counter counts the Step (R116, R136). -/
def State.tick (s : State) : State := { s with cycle := s.cycle + 1 }

/-- Sub-step 1 (R137). -/
def State.advance (s : State) : State := { s with seq := s.seq.map Entry.advance }

/-- Sub-step 3, not blocked (R139): the candidate is admitted in its place. -/
def State.enter (s : State) (c : Cut) : State := { s with seq := c.before ++ c.cand.enter :: c.after }

/-- Sub-step 3, blocked (R140): a bubble in the candidate's place, the candidate and all later entries one slot later. -/
def State.insertBubble (s : State) (c : Cut) : State :=
  { s with seq := c.before ++ newBubble c.cand.programCounter :: (c.cand :: c.after).map Entry.shift }

/-- Sub-step 4 (R141). -/
def State.dropCompleted (s : State) : State := { s with seq := s.seq.map Entry.drop }

/-- The end of the run: every entry is completed (R145). -/
def State.done (s : State) : Bool := s.seq.all (·.hasCompleted)

/-! ### The two limits (R110) -/

/-- `P_basePC` is a multiple of 4. -/
def Params.aligned (p : Params) : Bool := p.basePC.toNat % 4 == 0

/-- `n` slots all stand below the offset 2^32 (R39). -/
def Params.fits (p : Params) (n : Nat) : Bool :=
  n == 0 || decide (p.basePC.toNat + pcIncrement * (n - 1) < 2 ^ 32)

/-- The reason the run that is in this state has no meaning, if it has none (R110). -/
def State.refusal? (s : State) : Option Refusal :=
  if !Params.aligned s.params then some .misalignedBasePC
  else if !Params.fits s.params s.seq.length then some .pcOutOfRange
  else none

/-- The index of the slot that a program-counter offset belongs to: a slot covers four offsets (R36). -/
def State.slotAt? (s : State) (pc : PC) : Option Nat :=
  let k := (pc.toNat - s.params.basePC.toNat) / pcIncrement
  if s.params.basePC.toNat ≤ pc.toNat ∧ k < s.seq.length then some k else none

end Sys2Proof.Machine
end

