-- ==== Sys2Proof/Machine/Hazard.lean ====
section
/-! DEFINITION. The hazard detector (R128 to R135): pure, stateless, the candidate given by its metadata and stage, the
in-flight set as a list whose order does not matter. -/

namespace Sys2Proof.Machine

/-- `cyclesToConsume` (R129): in the integers, possibly negative (R10). -/
def cyclesToConsume (m : InstructionMeta) (stage : Stage) : Int := m.consumeStage.ordinal - stage.ordinal

/-- `cyclesToProduce` (R129): without forwarding the result is available in WB whatever the kind. -/
def cyclesToProduce (forwarding : Bool) (m : InstructionMeta) (stage : Stage) : Int :=
  if forwarding then m.produceStage.ordinal - stage.ordinal else Stage.WB.ordinal - stage.ordinal

/-- `later(prod, cons)` (R130). -/
def later : CmpPolicy → Int → Int → Bool
  | .strict, prod, cons => decide (cons < prod)
  | .nonStrict, prod, cons => decide (cons ≤ prod)

/-- `notLater(prod, cons)` (R130). -/
def notLater : CmpPolicy → Int → Int → Bool
  | .strict, prod, cons => decide (prod ≤ cons)
  | .nonStrict, prod, cons => decide (prod < cons)

/-- The RAW condition between a candidate and one in-flight entry, for one source register (R131). -/
def rawOn (P : Params) (forwarding : Bool) (c : InstructionMeta) (cStage : Stage) (p : Entry) (r : Reg) : Bool :=
  p.hasStarted && !p.hasCompleted && p.metadata.writesRegister && decide (p.metadata.destReg = some r)
    && !(P.x0Exempt && r == 0#5)
    && decide (0 ≤ cyclesToConsume c cStage)
    && decide (0 ≤ cyclesToProduce forwarding p.metadata p.currentStage)
    && later P.cmp (cyclesToProduce forwarding p.metadata p.currentStage) (cyclesToConsume c cStage)

/-- The RAW comparator (R131). Branch candidates are exempt under `P_branchRawExempt` (C4, D11). -/
def raw (P : Params) (forwarding : Bool) (inflight : List Entry) (c : InstructionMeta) (cStage : Stage) : Bool :=
  if P.branchRawExempt && c.isBranch then false
  else inflight.any fun p => c.sourceRegs.toList.any fun r => rawOn P forwarding c cStage p r

/-- The WAR condition between a candidate that writes `d` and one in-flight entry (R132). -/
def warOn (P : Params) (forwarding : Bool) (c : InstructionMeta) (cStage : Stage) (p : Entry) (d : Reg) : Bool :=
  p.hasStarted && !p.hasCompleted && p.metadata.readsRegister && decide (d ∈ p.metadata.sourceRegs.toList)
    && !(P.x0Exempt && d == 0#5)
    && decide (0 ≤ cyclesToConsume p.metadata p.currentStage)
    && decide (0 ≤ cyclesToProduce forwarding c cStage)
    && notLater P.cmp (cyclesToProduce forwarding c cStage) (cyclesToConsume p.metadata p.currentStage)

/-- The WAR comparator (R132). -/
def war (P : Params) (forwarding : Bool) (inflight : List Entry) (c : InstructionMeta) (cStage : Stage) : Bool :=
  match c.destReg with
  | none => false
  | some d => inflight.any fun p => warOn P forwarding c cStage p d

/-- The control comparator (R134): a branch or jump waits for an in-flight branch or jump not yet past EX (D13). -/
def ctrl (inflight : List Entry) (c : InstructionMeta) : Bool :=
  c.isControl && inflight.any fun p =>
    p.metadata.isControl && !p.hasCompleted && decide (p.currentStage.ordinal ≤ Stage.EX.ordinal)

/-- The arbitration signal (R135): a category counts only when its switch is on. -/
def blockedBy (P : Params) (cfg : Cfg) (inflight : List Entry) (c : InstructionMeta) (cStage : Stage) : Bool :=
  (cfg.dataHazardEnabled && (raw P cfg.forwarding inflight c cStage || war P cfg.forwarding inflight c cStage))
    || (cfg.controlHazardEnabled && ctrl inflight c)

/-- The arbitration signal of a state for a candidate with metadata `c` in stage `cStage` (R135). -/
def State.blocked (s : State) (c : InstructionMeta) (cStage : Stage) : Bool :=
  blockedBy s.params s.cfg s.inflight c cStage

end Sys2Proof.Machine
end

