-- ==== Sys2Proof/Machine/Issue.lean ====
section
/-! DEFINITION. Sub-step 3 of R136, stall arbitration and issue control, shared by the meanings of all instructions. -/

namespace Sys2Proof.Machine

/-- The turn of a candidate whose metadata is `m` (R138, R139, R140): nothing when no candidate remains; a bubble in its
place when it is blocked; its admission otherwise. A bubble that would put the last slot at an offset of 2^32 or more
ends the run's meaning (R39, R110; log entry 8). -/
def arbitrate (m : InstructionMeta) (s : State) : Host.Outcome State Fault Refusal :=
  match s.candidate? with
  | none => .next s
  | some c =>
    if s.blocked m c.cand.currentStage then
      if Params.fits s.params (s.seq.length + 1) then .next (s.insertBubble c) else .refused .pcOutOfRange
    else .next (s.enter c)

end Sys2Proof.Machine
end

