-- ==== Sys2Proof/Machine/BType.lean ====
section
/-! DEFINITION. The meanings of the B kinds, the conditional branches (R99 to R104): each is the instruction's turn as the candidate of a Step,
with its own metadata. No data value is computed (R5). -/

namespace Sys2Proof.Machine

/-- BEQ (R99). -/
def execBeq (rs1 rs2 : Reg) (_imm : BitVec 13) (s : State) :
    Host.Outcome State Fault Refusal := arbitrate (metaBeq rs1 rs2) s

/-- BNE (R100). -/
def execBne (rs1 rs2 : Reg) (_imm : BitVec 13) (s : State) :
    Host.Outcome State Fault Refusal := arbitrate (metaBne rs1 rs2) s

/-- BLT (R101). -/
def execBlt (rs1 rs2 : Reg) (_imm : BitVec 13) (s : State) :
    Host.Outcome State Fault Refusal := arbitrate (metaBlt rs1 rs2) s

/-- BGE (R102). -/
def execBge (rs1 rs2 : Reg) (_imm : BitVec 13) (s : State) :
    Host.Outcome State Fault Refusal := arbitrate (metaBge rs1 rs2) s

/-- BLTU (R103). -/
def execBltu (rs1 rs2 : Reg) (_imm : BitVec 13) (s : State) :
    Host.Outcome State Fault Refusal := arbitrate (metaBltu rs1 rs2) s

/-- BGEU (R104). -/
def execBgeu (rs1 rs2 : Reg) (_imm : BitVec 13) (s : State) :
    Host.Outcome State Fault Refusal := arbitrate (metaBgeu rs1 rs2) s

end Sys2Proof.Machine
end

