-- ==== Sys2Proof/Machine/IType.lean ====
section
/-! DEFINITION. The meanings of the I kinds: OP-IMM, LOAD, JALR (R81 to R95): each is the instruction's turn as the candidate of a Step,
with its own metadata. No data value is computed (R5). -/

namespace Sys2Proof.Machine

/-- ADDI (R81). -/
def execAddi (rd rs1 : Reg) (_imm : BitVec 12) (s : State) :
    Host.Outcome State Fault Refusal := arbitrate (metaAddi rd rs1) s

/-- SLTI (R82). -/
def execSlti (rd rs1 : Reg) (_imm : BitVec 12) (s : State) :
    Host.Outcome State Fault Refusal := arbitrate (metaSlti rd rs1) s

/-- SLTIU (R83). -/
def execSltiu (rd rs1 : Reg) (_imm : BitVec 12) (s : State) :
    Host.Outcome State Fault Refusal := arbitrate (metaSltiu rd rs1) s

/-- XORI (R84). -/
def execXori (rd rs1 : Reg) (_imm : BitVec 12) (s : State) :
    Host.Outcome State Fault Refusal := arbitrate (metaXori rd rs1) s

/-- ORI (R85). -/
def execOri (rd rs1 : Reg) (_imm : BitVec 12) (s : State) :
    Host.Outcome State Fault Refusal := arbitrate (metaOri rd rs1) s

/-- ANDI (R86). -/
def execAndi (rd rs1 : Reg) (_imm : BitVec 12) (s : State) :
    Host.Outcome State Fault Refusal := arbitrate (metaAndi rd rs1) s

/-- SLLI (R87). -/
def execSlli (rd rs1 : Reg) (_imm : BitVec 12) (s : State) :
    Host.Outcome State Fault Refusal := arbitrate (metaSlli rd rs1) s

/-- SRLI (R88). -/
def execSrli (rd rs1 : Reg) (_imm : BitVec 12) (s : State) :
    Host.Outcome State Fault Refusal := arbitrate (metaSrli rd rs1) s

/-- SRAI (R89). -/
def execSrai (rd rs1 : Reg) (_imm : BitVec 12) (s : State) :
    Host.Outcome State Fault Refusal := arbitrate (metaSrai rd rs1) s

/-- LB (R90). -/
def execLb (rd rs1 : Reg) (_imm : BitVec 12) (s : State) :
    Host.Outcome State Fault Refusal := arbitrate (metaLb rd rs1) s

/-- LH (R91). -/
def execLh (rd rs1 : Reg) (_imm : BitVec 12) (s : State) :
    Host.Outcome State Fault Refusal := arbitrate (metaLh rd rs1) s

/-- LW (R92). -/
def execLw (rd rs1 : Reg) (_imm : BitVec 12) (s : State) :
    Host.Outcome State Fault Refusal := arbitrate (metaLw rd rs1) s

/-- LBU (R93). -/
def execLbu (rd rs1 : Reg) (_imm : BitVec 12) (s : State) :
    Host.Outcome State Fault Refusal := arbitrate (metaLbu rd rs1) s

/-- LHU (R94). -/
def execLhu (rd rs1 : Reg) (_imm : BitVec 12) (s : State) :
    Host.Outcome State Fault Refusal := arbitrate (metaLhu rd rs1) s

/-- JALR (R95). -/
def execJalr (rd rs1 : Reg) (_imm : BitVec 12) (s : State) :
    Host.Outcome State Fault Refusal := arbitrate (metaJalr rd rs1) s

end Sys2Proof.Machine
end

