-- ==== Sys2Proof/Machine/RType.lean ====
section
/-! DEFINITION. The meanings of the R kinds (R71 to R80): each is the instruction's turn as the candidate of a Step,
with its own metadata. No data value is computed (R5). -/

namespace Sys2Proof.Machine

/-- ADD (R71). -/
def execAdd (rd rs1 rs2 : Reg) (s : State) :
    Host.Outcome State Fault Refusal := arbitrate (metaAdd rd rs1 rs2) s

/-- SUB (R72). -/
def execSub (rd rs1 rs2 : Reg) (s : State) :
    Host.Outcome State Fault Refusal := arbitrate (metaSub rd rs1 rs2) s

/-- SLL (R73). -/
def execSll (rd rs1 rs2 : Reg) (s : State) :
    Host.Outcome State Fault Refusal := arbitrate (metaSll rd rs1 rs2) s

/-- SLT (R74). -/
def execSlt (rd rs1 rs2 : Reg) (s : State) :
    Host.Outcome State Fault Refusal := arbitrate (metaSlt rd rs1 rs2) s

/-- SLTU (R75). -/
def execSltu (rd rs1 rs2 : Reg) (s : State) :
    Host.Outcome State Fault Refusal := arbitrate (metaSltu rd rs1 rs2) s

/-- XOR (R76). -/
def execXor (rd rs1 rs2 : Reg) (s : State) :
    Host.Outcome State Fault Refusal := arbitrate (metaXor rd rs1 rs2) s

/-- SRL (R77). -/
def execSrl (rd rs1 rs2 : Reg) (s : State) :
    Host.Outcome State Fault Refusal := arbitrate (metaSrl rd rs1 rs2) s

/-- SRA (R78). -/
def execSra (rd rs1 rs2 : Reg) (s : State) :
    Host.Outcome State Fault Refusal := arbitrate (metaSra rd rs1 rs2) s

/-- OR (R79). -/
def execOr (rd rs1 rs2 : Reg) (s : State) :
    Host.Outcome State Fault Refusal := arbitrate (metaOr rd rs1 rs2) s

/-- AND (R80). -/
def execAnd (rd rs1 rs2 : Reg) (s : State) :
    Host.Outcome State Fault Refusal := arbitrate (metaAnd rd rs1 rs2) s

end Sys2Proof.Machine
end

