-- ==== Sys2Proof/Machine/SType.lean ====
section
/-! DEFINITION. The meanings of the S kinds, the stores (R96 to R98): each is the instruction's turn as the candidate of a Step,
with its own metadata. No data value is computed (R5). -/

namespace Sys2Proof.Machine

/-- SB (R96). -/
def execSb (rs1 rs2 : Reg) (_imm : BitVec 12) (s : State) :
    Host.Outcome State Fault Refusal := arbitrate (metaSb rs1 rs2) s

/-- SH (R97). -/
def execSh (rs1 rs2 : Reg) (_imm : BitVec 12) (s : State) :
    Host.Outcome State Fault Refusal := arbitrate (metaSh rs1 rs2) s

/-- SW (R98). -/
def execSw (rs1 rs2 : Reg) (_imm : BitVec 12) (s : State) :
    Host.Outcome State Fault Refusal := arbitrate (metaSw rs1 rs2) s

end Sys2Proof.Machine
end

