-- ==== Sys2Proof/Machine/UJType.lean ====
section
/-! DEFINITION. The meanings of LUI, AUIPC and JAL (R105 to R107): each is the instruction's turn as the candidate of a Step,
with its own metadata. No data value is computed (R5). -/

namespace Sys2Proof.Machine

/-- LUI (R105). -/
def execLui (rd : Reg) (_imm : BitVec 20) (s : State) :
    Host.Outcome State Fault Refusal := arbitrate (metaLui rd) s

/-- AUIPC (R106). -/
def execAuipc (rd : Reg) (_imm : BitVec 20) (s : State) :
    Host.Outcome State Fault Refusal := arbitrate (metaAuipc rd) s

/-- JAL (R107). -/
def execJal (rd : Reg) (_imm : BitVec 21) (s : State) :
    Host.Outcome State Fault Refusal := arbitrate (metaJal rd) s

end Sys2Proof.Machine
end

