-- ==== Sys2Proof/Machine/Unknown.lean ====
section
/-! DEFINITION. The meanings of the UNKNOWN placeholders (R63, R64): they occupy a slot with empty metadata: each is the instruction's turn as the candidate of a Step,
with its own metadata. No data value is computed (R5). -/

namespace Sys2Proof.Machine

/-- UNKNOWN_R (R63, R64). -/
def execUnknownR (_rd : Reg) (_funct3 : Funct3) (_rs1 _rs2 : Reg) (_funct7 : Funct7) (s : State) :
    Host.Outcome State Fault Refusal := arbitrate metaUnknownR s

/-- UNKNOWN_I (R63, R64). -/
def execUnknownIOpImm (_rd : Reg) (_funct3 : Funct3) (_rs1 : Reg) (_imm : BitVec 12) (s : State) :
    Host.Outcome State Fault Refusal := arbitrate metaUnknownIOpImm s

/-- UNKNOWN_I (R63, R64). -/
def execUnknownILoad (_rd : Reg) (_funct3 : Funct3) (_rs1 : Reg) (_imm : BitVec 12) (s : State) :
    Host.Outcome State Fault Refusal := arbitrate metaUnknownILoad s

/-- UNKNOWN_I (R63, R64). -/
def execUnknownIJalr (_rd : Reg) (_funct3 : Funct3) (_rs1 : Reg) (_imm : BitVec 12) (s : State) :
    Host.Outcome State Fault Refusal := arbitrate metaUnknownIJalr s

/-- UNKNOWN_S (R63, R64). -/
def execUnknownS (_funct3 : Funct3) (_rs1 _rs2 : Reg) (_imm : BitVec 12) (s : State) :
    Host.Outcome State Fault Refusal := arbitrate metaUnknownS s

/-- UNKNOWN_B (R63, R64). -/
def execUnknownB (_funct3 : Funct3) (_rs1 _rs2 : Reg) (_imm : BitVec 13) (s : State) :
    Host.Outcome State Fault Refusal := arbitrate metaUnknownB s

end Sys2Proof.Machine
end

