-- ==== Sys2Proof/Machine/Cycle.lean ====
section
/-! DEFINITION. One clock cycle: the Step of R136 around the candidate's meaning, and what a clock edge does before and
after a run. -/

namespace Sys2Proof.Machine

/-- The state sub-step 2 reads: the counter has counted and every in-flight entry has advanced (R136, R137). -/
def State.advanced (s : State) : State := s.tick.advance

/-- Sub-step 4 on the outcome of sub-step 3. -/
def dropOutcome : Host.Outcome State Fault Refusal → Host.Outcome State Fault Refusal
  | .next s => .next s.dropCompleted
  | .fault r => .fault r
  | .refused r => .refused r

/-- Sub-steps 2 and 3 (R138 to R140): the candidate is found and its instruction has its turn. A bubble is created
started, so it is a candidate in no reachable state; the rule's text is followed there all the same (log entry 15). -/
def issue (s : State) : Host.Outcome State Fault Refusal :=
  match s.candidate? with
  | none => .next s
  | some c =>
    match c.cand.body with
    | .real i => exec i s
    | .bubble => arbitrate bubbleMeta s

/-- The Step of R136. -/
def engineStep (s : State) : Host.Outcome State Fault Refusal := dropOutcome (issue s.advanced)

/-- One clock edge: a run the model gives no meaning to is refused (R110); no Step is applied to an ended state, which
stays as it is (R120, R145; D27; log entry 5); otherwise one Step. -/
def clockEdge (s : State) : Host.Outcome State Fault Refusal :=
  match s.refusal? with
  | some r => .refused r
  | none => if s.done then .next s else engineStep s

end Sys2Proof.Machine
end

