-- ==== Sys2Proof/Machine/Start.lean ====
section
/-! DEFINITION. The host interface before a run (R121, R122, R124, R125): the reset state built from a decoded sequence
and the run inputs, and the packing of the switches into the configuration word (R28). -/

namespace Sys2Proof.Machine

/-- The real entry of the `k`-th decoded instruction at reset (R34). -/
def resetEntry (P : Params) (k : Nat) (i : Instr) : Entry :=
  { body := .real i, id := k
    programCounter := P.basePC + BitVec.ofNat 32 (pcIncrement * k)
    originalProgramCounter := P.basePC + BitVec.ofNat 32 (pcIncrement * k)
    currentStage := .notStarted, hasStarted := false, hasCompleted := false, inFlight := false }

/-- The reset state of a run over a decoded sequence (R34, R124). A reset during a run is this same operation, the
inputs sampled at that reset (D28). -/
def start (instrs : List Instr) (cfg : Cfg) (P : Params) : State :=
  { seq := instrs.mapIdx (resetEntry P), cycle := 0, cfg := cfg, params := P }

/-- The reset state of a run over an input of words: each is decoded, the failures are dropped, and what is left is
numbered without gaps (R65, R122, R125). -/
def startWords (ws : List Word) (cfg : Cfg) (P : Params) : State := start (decodeAll ws) cfg P

end Sys2Proof.Machine

namespace Sys2Proof

/-- The switches of a configuration word: bit 0 forwarding, bit 1 data hazards, bit 2 control hazards (R28, D2). -/
def Cfg.ofWord (w : BitVec 3) : Cfg :=
  { forwarding := w.getLsbD 0, dataHazardEnabled := w.getLsbD 1, controlHazardEnabled := w.getLsbD 2 }

/-- The configuration word of the switches (R28, D2). -/
def Cfg.toWord (c : Cfg) : BitVec 3 :=
  BitVec.ofBool c.controlHazardEnabled ++ BitVec.ofBool c.dataHazardEnabled ++ BitVec.ofBool c.forwarding

end Sys2Proof
end

