-- ==== Sys2Proof/Machine/Step.lean ====
section
/-! DEFINITION. The step of the machine, one clock edge, and the placing of one instruction where the next step takes
it from. -/

namespace Sys2Proof.Machine

/-- One step is one clock edge (R121, D1). -/
def step (s : State) : Host.Outcome State Fault Refusal := clockEdge s

/-- `s` restarted with the one-word program `w`, its switches and parameters as they are, so that the next step takes
that instruction (R122, R124; log entry 12). An input longer than a word is no instruction, and gives the empty program. -/
def State.withFetchWord (s : State) (nbits w : Nat) : State :=
  startWords (tableWord? nbits w).toList s.cfg s.params

end Sys2Proof.Machine
end

