-- ==== Sys2Proof/Machine/Hardware.lean ====
section
/-! DEFINITION. The hardware reading of issue control (R32, R144): four stage registers, a head pointer into the decoded
input and a slot counter. It is a second machine; that it agrees with the engine of R136 is a statement, not a
definition. -/

namespace Sys2Proof.Machine

/-- The state of the hardware reading. -/
structure HwState where
  input : List Instr
  /-- `h`, the head pointer (R144). -/
  head : Nat
  /-- `n`, the slot counter (R144). -/
  slots : Nat
  ifR : Option Body
  idR : Option Body
  exR : Option Body
  memR : Option Body
  /-- The entries admitted so far, each with its final program counter. -/
  trace : List (PC × Body)
  cycle : Nat
  cfg : Cfg
  params : Params
deriving DecidableEq, Repr

/-- The contents of a stage register as the comparators read them (R128). -/
def stageReg (stage : Stage) (r : Option Body) : List Entry :=
  r.toList.map fun b =>
    { body := b, id := 0, programCounter := 0#32, originalProgramCounter := 0#32, currentStage := stage
      hasStarted := true, hasCompleted := false, inFlight := true }

/-- What the comparators read after the shift: the shifted ID, EX and MEM registers (R32). -/
def HwState.occupants (h : HwState) : List Entry :=
  stageReg .ID h.ifR ++ stageReg .EX h.idR ++ stageReg .MEM h.exR

/-- The program counter of the next slot, `P_basePC + 4·n` (R144). -/
def HwState.nextPC (h : HwState) : PC := h.params.basePC + BitVec.ofNat 32 (pcIncrement * h.slots)

/-- The registers shifted, with `entering` in IF (R32). -/
def HwState.shift (h : HwState) (entering : Option Body) : HwState :=
  { h with cycle := h.cycle + 1, memR := h.exR, exR := h.idR, idR := h.ifR, ifR := entering }

/-- A body issued into IF: the slot counter counts and the trace grows (R144). -/
def HwState.put (h : HwState) (b : Body) : HwState :=
  { h.shift (some b) with slots := h.slots + 1, trace := h.trace ++ [(h.nextPC, b)] }

/-- One clock cycle of the hardware reading (R144). -/
def HwState.next (h : HwState) : HwState :=
  match h.input[h.head]? with
  | none => h.shift none
  | some i =>
    if blockedBy h.params h.cfg h.occupants (metaOf i) .notStarted then h.put .bubble
    else { h.put (.real i) with head := h.head + 1 }

/-- The body of the in-flight entry in a stage, if there is one. -/
def State.inStage (s : State) (stage : Stage) : Option Body :=
  (s.inflight.find? fun e => decide (e.currentStage = stage)).map (·.body)

/-- The hardware reading of an engine state. -/
def State.hardware (s : State) : HwState :=
  { input := s.seq.filterMap Entry.instr?
    head := s.seq.countP fun e => e.isReal && e.hasStarted
    slots := s.seq.countP (·.hasStarted)
    ifR := s.inStage .IF, idR := s.inStage .ID, exR := s.inStage .EX, memR := s.inStage .MEM
    trace := (s.seq.filter (·.hasStarted)).map fun e => (e.programCounter, e.body)
    cycle := s.cycle, cfg := s.cfg, params := s.params }

end Sys2Proof.Machine
end

