-- ==== Sys2Proof/Machine/Outputs.lean ====
section
/-! DEFINITION. The outputs of a run (R117, R121, R153, R154). -/

namespace Sys2Proof.Machine

/-- The trace (R153): the program counter and the body of every slot, in order. The text of a real instruction is the
excluded writer's (D25); a bubble's display name is the "NOP" of its metadata (R126). -/
def State.trace (s : State) : List (PC × Body) := s.seq.map fun e => (e.programCounter, e.body)

/-- The number of decoded instructions given to the run: its real entries (R25, R154; log entry 22). -/
def State.original (s : State) : Nat := s.seq.countP (·.isReal)

/-- The number of slots, bubbles among them (R154). -/
def State.final (s : State) : Nat := s.seq.length

/-- The number of bubbles, `final - original` (R154). -/
def State.bubbles (s : State) : Nat := s.final - s.original

/-- The mode label (R154). -/
inductive ModeLabel where
  | data | control | integrated | noControl
deriving DecidableEq, Repr

/-- The label of two switches (R154; D21, log entry 20). -/
def modeLabel (cfg : Cfg) : ModeLabel :=
  match cfg.dataHazardEnabled, cfg.controlHazardEnabled with
  | true, false => .data
  | false, true => .control
  | true, true => .integrated
  | false, false => .noControl

/-- The label's text (R154). -/
def ModeLabel.text : ModeLabel → String
  | .data => "DATA"
  | .control => "CONTROL"
  | .integrated => "INTEGRATED"
  | .noControl => "NO CONTROL"

/-- An exact rational percentage, a fraction in lowest terms (log entry 14). -/
structure Percent where
  num : Nat
  den : Nat
deriving DecidableEq, Repr

/-- The overhead `bubbles / original * 100`, exact; `none` for an empty program (R154, D22). -/
def overhead (bubbles original : Nat) : Option Percent :=
  if original = 0 then none
  else
    let g := Nat.gcd (bubbles * 100) original
    some { num := bubbles * 100 / g, den := original / g }

/-- The summary (R154). -/
structure Summary where
  original : Nat
  final : Nat
  bubbles : Nat
  overhead : Option Percent
  label : ModeLabel
  forwarding : Bool
deriving DecidableEq, Repr

/-- The summary of a state. -/
def State.summary (s : State) : Summary :=
  { original := s.original, final := s.final, bubbles := s.bubbles, overhead := overhead s.bubbles s.original
    label := modeLabel s.cfg, forwarding := s.cfg.forwarding }

/-- What a run reports (R3, R153, R154): the trace, the summary, the cycle count. -/
structure Report where
  trace : List (PC × Body)
  summary : Summary
  cycles : Nat
deriving DecidableEq, Repr

/-- The outputs: produced at the end of the run, none readable during it (R117). -/
def State.report? (s : State) : Option Report :=
  if s.done then some { trace := s.trace, summary := s.summary, cycles := s.cycle } else none

end Sys2Proof.Machine
end

