-- ==== Sys2Proof/Machine/Run.lean ====
section
/-! DEFINITION. A whole run (R123): reset, Step while the end of the run does not hold, the report. -/

namespace Sys2Proof.Machine

/-- At most `k` Steps, stopping at the end of the run (R123, R145) or at a refusal (R110). -/
def runToEnd : Nat → State → Host.Outcome State Fault Refusal
  | 0, s => .next s
  | k + 1, s =>
    if s.done then .next s
    else
      match step s with
      | .next t => runToEnd k t
      | .fault r => .fault r
      | .refused r => .refused r

/-- Steps enough for any run of `n` decoded instructions: at most `3n` slots, and four more cycles (R148, R150;
log entry 25). -/
def stepBound (n : Nat) : Nat := 3 * n + 4

/-- `run(instrs, cfg)` (R123). A run with no meaning is refused, the empty one too (R110). -/
def run (instrs : List Instr) (cfg : Cfg) (P : Params) : Host.Outcome (Option Report) Fault Refusal :=
  match (start instrs cfg P).refusal? with
  | some r => .refused r
  | none =>
    match runToEnd (stepBound instrs.length) (start instrs cfg P) with
    | .next s => .next s.report?
    | .fault r => .fault r
    | .refused r => .refused r

end Sys2Proof.Machine
end

