-- ==== Sys2Proof/Machine/Timing.lean ====
section
/-! DEFINITION. The timing facts of R147 and R149 in closed form: the stage of a slot in a cycle, the issue distance an
instruction needs from an earlier one, and the schedule those distances give. -/

namespace Sys2Proof.Machine

/-- The stage of the entry at final position `i` in cycle `t`, by its age `t - i` (R147). -/
def stageAtAge : Nat → Stage
  | 0 => .notStarted
  | 1 => .IF
  | 2 => .ID
  | 3 => .EX
  | 4 => .MEM
  | _ => .WB

/-- Whether RAW applies between a candidate and an earlier instruction (the condition below the table of R149). -/
def rawApplies (P : Params) (c p : InstructionMeta) : Bool :=
  !(P.branchRawExempt && c.isBranch)
    && c.sourceRegs.toList.any fun r => decide (p.destReg = some r) && !(P.x0Exempt && r == 0#5)

/-- The RAW rows of the table of R149. -/
def rawDistance (cmp : CmpPolicy) (forwarding : Bool) (produceStage : Stage) : Nat :=
  match forwarding, cmp with
  | false, .strict => 2
  | false, .nonStrict => 3
  | true, .strict => 1
  | true, .nonStrict => if produceStage = .MEM then 2 else 1

/-- `req(p, c)` (R149): the least issue distance at which `p` does not block `c`. -/
def req (P : Params) (cfg : Cfg) (p c : InstructionMeta) : Nat :=
  max (if cfg.dataHazardEnabled && rawApplies P c p then rawDistance P.cmp cfg.forwarding p.produceStage else 1)
    (if cfg.controlHazardEnabled && (c.isControl && p.isControl) then 3 else 1)

/-- The position of a next instruction after the instructions already placed, each with its position (R149). -/
def nextPosition (P : Params) (cfg : Cfg) (placed : List (Nat × InstructionMeta)) (c : InstructionMeta) : Nat :=
  placed.foldr (fun p m => max (p.1 + req P cfg p.2 c) m) 0

/-- The positions of a list of instructions after those already placed. -/
def placeAfter (P : Params) (cfg : Cfg) : List (Nat × InstructionMeta) → List InstructionMeta → List Nat
  | _, [] => []
  | placed, c :: cs =>
    nextPosition P cfg placed c :: placeAfter P cfg ((nextPosition P cfg placed c, c) :: placed) cs

/-- The final positions of a decoded sequence, `pos` of R149. -/
def schedule (P : Params) (cfg : Cfg) (instrs : List Instr) : List Nat :=
  placeAfter P cfg [] (instrs.map metaOf)

/-- The positions of the real entries of a sequence. -/
def realPositions (seq : List Entry) : List Nat :=
  (seq.zipIdx.filter fun x => x.1.isReal).map (·.2)

end Sys2Proof.Machine
end

