-- ==== Sys2Proof/Safety.lean ====
section
/-! DEFINITION. What a good state is: the invariants of R24, R27, R32, R37, R127 and R147, in the terms the statements
use. -/

namespace Sys2Proof.Machine

/-- The life of an entry (R24) with the in-flight predicate of R27: not started, in flight in one of IF, ID, EX, MEM, or
completed in WB; no other combination. -/
def Entry.LifeCycle (e : Entry) : Prop :=
  (e.currentStage = .notStarted ∧ e.hasStarted = false ∧ e.hasCompleted = false ∧ e.inFlight = false)
  ∨ ((e.currentStage = .IF ∨ e.currentStage = .ID ∨ e.currentStage = .EX ∨ e.currentStage = .MEM)
      ∧ e.hasStarted = true ∧ e.hasCompleted = false ∧ e.inFlight = true)
  ∨ (e.currentStage = .WB ∧ e.hasStarted = true ∧ e.hasCompleted = true ∧ e.inFlight = false)

/-- Every entry is in a state of its life (R24, R27). -/
def State.LifeCycles (s : State) : Prop := ∀ e ∈ s.seq, e.LifeCycle

/-- Slot `i` is at `P_basePC + 4·i` (R37). -/
def State.PcNumbered (s : State) : Prop :=
  ∀ (i : Nat) (e : Entry), s.seq[i]? = some e → e.programCounter = s.params.basePC + BitVec.ofNat 32 (pcIncrement * i)

/-- What every bubble carries from its creation on (R127): started, the id -1, its first program counter. -/
def Entry.BubbleForm (e : Entry) : Prop :=
  e.body = .bubble → e.hasStarted = true ∧ e.id = -1 ∧ e.originalProgramCounter = e.programCounter

/-- The entry at position `i` in cycle `t` (R147): in the stage of its age `t - i`, started once that is positive,
completed once it is five, in flight between the two. -/
def Entry.OnTime (e : Entry) (i t : Nat) : Prop :=
  e.currentStage = stageAtAge (t - i)
  ∧ e.hasStarted = decide (i < t)
  ∧ e.hasCompleted = decide (i + nStages ≤ t)
  ∧ e.inFlight = decide (i < t ∧ t < i + nStages)

/-- The invariant of the engine: every slot is on time and numbered, every bubble has its form, and the counter has not
run past the end of the run (R37, R127, R147, R148). -/
structure State.Inv (s : State) : Prop where
  onTime : ∀ (i : Nat) (e : Entry), s.seq[i]? = some e → e.OnTime i s.cycle
  numbered : s.PcNumbered
  bubbles : ∀ e ∈ s.seq, e.BubbleForm
  counter : s.cycle ≤ if s.seq = [] then 0 else s.seq.length + (nStages - 1)

/-- What an entry keeps for good (R25): its body, its id and its original program counter. -/
def Entry.identity (e : Entry) : Body × Int × PC := (e.body, e.id, e.originalProgramCounter)

/-- The real entries' identities, in program order. -/
def State.realIdentities (s : State) : List (Body × Int × PC) := (s.seq.filter (·.isReal)).map Entry.identity

/-- The state in which the candidate has been admitted in its place (R139), written out. -/
def State.admitted (s : State) (c : Cut) : State :=
  { seq := c.before ++ { c.cand with hasStarted := true, currentStage := .IF, inFlight := true } :: c.after
    cycle := s.cycle, cfg := s.cfg, params := s.params }

/-- The state in which a bubble has been put in the candidate's place (R127, R140), written out. -/
def State.stalled (s : State) (c : Cut) : State :=
  { seq := c.before ++
      { body := .bubble, id := -1, programCounter := c.cand.programCounter
        originalProgramCounter := c.cand.programCounter, currentStage := .IF, hasStarted := true
        hasCompleted := false, inFlight := true } ::
      (c.cand :: c.after).map fun e => { e with programCounter := e.programCounter + 4#32 }
    cycle := s.cycle, cfg := s.cfg, params := s.params }

/-- The last slot of the schedule stands below the offset 2^32 (R39, R110, R149): the run of an aligned base with a
meaning. The last slot is the last instruction's, because a bubble only ever goes in before an instruction (R140). -/
def ScheduleFits (P : Params) (cfg : Cfg) (instrs : List Instr) : Prop :=
  ∀ last, (schedule P cfg instrs).getLast? = some last → P.basePC.toNat + 4 * last < 2 ^ 32

/-- What the turn of an instruction is, with `m` its metadata (R138, R139, R140, R110): on every state, whatever the
operands, one of four things, each decided by the state and the metadata alone. -/
def TakesTurn (i : Instr) (m : InstructionMeta) : Prop :=
  ∀ s : State,
    (s.candidate? = none → exec i s = .next s) ∧
    ∀ c, s.candidate? = some c →
      (s.blocked m c.cand.currentStage = false → exec i s = .next (s.admitted c)) ∧
      (s.blocked m c.cand.currentStage = true →
        s.params.basePC.toNat + 4 * s.seq.length < 2 ^ 32 → exec i s = .next (s.stalled c)) ∧
      (s.blocked m c.cand.currentStage = true →
        2 ^ 32 ≤ s.params.basePC.toNat + 4 * s.seq.length → exec i s = .refused .pcOutOfRange)

end Sys2Proof.Machine
end

