-- ==== Sys2Proof/Certificates/Slice0/Obligations.lean ====
section
/-! DEFINITION. The statements for the provers. Each says which rule of spec/ it formalises; a clause that rests on a
choice of the model names the log entry. -/

open Sys2Proof Sys2Proof.Machine

/-! ### The decoder and the encoder -/

/-- Every well-formed instruction is what its word decodes to, with every operand at every value (R52 to R62). Rests
on the spec's decisions D3 to D6 on opcodes, kinds and keys. -/
def Obligations.DecodeOfEncodeIsTheInstruction : Prop :=
  ∀ i : Instr, i.wf = true → decode (encode i) = .instr i

/-- A word that decodes has one meaning: the instruction is well-formed and its word is that word, so no bit is
dropped (R52 to R66). Rests on the spec's decisions D3 to D6 on opcodes, kinds and keys. -/
def Obligations.EncodeOfDecodeIsTheWord : Prop :=
  ∀ (w : Word) (i : Instr), decode w = .instr i → i.wf = true ∧ encode i = w

/-- The opcode is the low seven bits, exactly the nine opcodes of R51 are dispatched, each to its format, and a word
with any other opcode is a decode failure that carries it (R50, R51, R65). Rests on the spec's decisions D3 and D14.
-/
def Obligations.NineOpcodesAreDispatched : Prop :=
  ∀ w : Word,
    let opc : BitVec 7 := (w &&& 0x7F#32).setWidth 7
    let table : List (BitVec 7 × Fmt) :=
      [(0x33#7, .R), (0x03#7, .I), (0x13#7, .I), (0x67#7, .I), (0x23#7, .S), (0x63#7, .B), (0x37#7, .U),
        (0x17#7, .U), (0x6F#7, .J)]
    (∃ i, decode w = .instr i ∧ i.opcode = opc ∧ (opc, i.fmt) ∈ table)
    ∨ ((∀ f, (opc, f) ∉ table) ∧ decode w = .failure opc)

/-- The opcode of a decoded word is `word & 0x7F` (R50), and its raw fields are the bits R52 to R57 give its format. -/
def Obligations.DecodedFieldsAreTheFormatsBits : Prop :=
  ∀ (w : Word) (i : Instr), decode w = .instr i →
    i.opcode = (w &&& 0x7F#32).setWidth 7 ∧
    i.fields = match i.fmt with
      | .R => .r (w.extractLsb' 7 5) (w.extractLsb' 12 3) (w.extractLsb' 15 5) (w.extractLsb' 20 5) (w.extractLsb' 25 7)
      | .I => .i (w.extractLsb' 7 5) (w.extractLsb' 12 3) (w.extractLsb' 15 5) (w.extractLsb' 20 12)
      | .S => .s (w.extractLsb' 12 3) (w.extractLsb' 15 5) (w.extractLsb' 20 5)
          (w.extractLsb' 25 7 ++ w.extractLsb' 7 5)
      | .B => .b (w.extractLsb' 12 3) (w.extractLsb' 15 5) (w.extractLsb' 20 5)
          (w.extractLsb' 31 1 ++ w.extractLsb' 7 1 ++ w.extractLsb' 25 6 ++ w.extractLsb' 8 4 ++ 0#1)
      | .U => .u (w.extractLsb' 7 5) (w.extractLsb' 12 20)
      | .J => .j (w.extractLsb' 7 5)
          (w.extractLsb' 31 1 ++ w.extractLsb' 12 8 ++ w.extractLsb' 20 1 ++ w.extractLsb' 21 10 ++ 0#1)

/-- The kind of a decoded word is what R61's resolution gives from the opcode and the fields alone. Rests on the
spec's decisions D4, D5 and D6. -/
def Obligations.KindIsResolvedFromTheKeys : Prop :=
  ∀ (w : Word) (i : Instr), decode w = .instr i → resolveKind i.opcode i.fields = some i.kind

/-- The decoder and spec/opcode_table.json give every word the same kind, or both none (R62, R63, R65). Rests on the
spec's decisions D3 to D6. -/
def Obligations.DecodeAgreesWithTheOpcodeTable : Prop :=
  ∀ w : Word, (decode w).instr?.map Instr.kind = tableKind w

/-- No word is of two kind rows of the table (R62). Rests on the spec's decisions D3 to D6. -/
def Obligations.KindRowsAreDisjoint : Prop :=
  kindRows.Pairwise fun a b => ∀ w : Word, ¬(a.hits w = true ∧ b.hits w = true)

/-- Words of the spec, one at least of every family, and what they stand for (the examples of R71 to R107; the word of
R57 whose immediate is 4, C1; R63; R65). Rests on the spec's decisions D3 to D6 and its reading C1 (log entry 19). -/
def Obligations.ExampleWordsDecode : Prop :=
  decode 0x402081B3#32 = .instr (.sub 3#5 1#5 2#5) ∧
  decode 0xFF810113#32 = .instr (.addi 2#5 2#5 4088#12) ∧
  decode 0x40435293#32 = .instr (.srai 5#5 6#5 1028#12) ∧
  decode 0xFFF14203#32 = .instr (.lbu 4#5 2#5 4095#12) ∧
  decode 0x010280E7#32 = .instr (.jalr 1#5 5#5 16#12) ∧
  decode 0xFE512E23#32 = .instr (.sw 2#5 5#5 4092#12) ∧
  decode 0x0041E0E3#32 = .instr (.bltu 3#5 4#5 2048#13) ∧
  decode 0x123452B7#32 = .instr (.lui 5#5 74565#20) ∧
  decode 0x004000EF#32 = .instr (.jal 1#5 4#21) ∧
  decode 0x022081B3#32 = .instr (.unknownR 3#5 0#3 1#5 2#5 1#7) ∧
  decode 0x00000073#32 = .failure 0x73#7

/-! ### Words, kinds and metadata, family by family (R71 to R107) -/

/-- R kinds: a word with opcode 0x33 and the keys of a row decodes to that row's kind over its `rd`, `rs1`, `rs2`,
which carries the row's metadata: two sources, a destination, no flag, EX and ID (R71 to R80). Rests on the spec's
decisions D4, D6, D7, D8 and D24. -/
def Obligations.RegisterKindWordsAndMetadata : Prop :=
  ∀ f3 f7 mk name,
    (f3, f7, mk, name) ∈ ([(0#3, 0x00#7, .add, "ADD"), (0#3, 0x20#7, .sub, "SUB"), (1#3, 0x00#7, .sll, "SLL"),
      (2#3, 0x00#7, .slt, "SLT"), (3#3, 0x00#7, .sltu, "SLTU"), (4#3, 0x00#7, .xor, "XOR"), (5#3, 0x00#7, .srl, "SRL"),
      (5#3, 0x20#7, .sra, "SRA"), (6#3, 0x00#7, .or, "OR"), (7#3, 0x00#7, .and, "AND")] :
        List (Funct3 × Funct7 × (Reg → Reg → Reg → Instr) × String)) →
    (∀ w : Word, w.extractLsb' 0 7 = 0x33#7 → w.extractLsb' 12 3 = f3 → w.extractLsb' 25 7 = f7 →
      decode w = .instr (mk (w.extractLsb' 7 5) (w.extractLsb' 15 5) (w.extractLsb' 20 5))) ∧
    ∀ rd rs1 rs2, metaOf (mk rd rs1 rs2) =
      { name := name, isLoad := false, isStore := false, isBranch := false, isJump := false
        sourceRegs := .two rs1 rs2, destReg := some rd, produceStage := .EX, consumeStage := .ID }

/-- OP-IMM kinds: as the R kinds, with opcode 0x13, one source, and a selector in `imm[11:5]` for the shifts only (R81
to R89). Rests on the spec's decisions D4, D5, D7 and D8. -/
def Obligations.ImmediateKindWordsAndMetadata : Prop :=
  ∀ f3 selector mk name,
    (f3, selector, mk, name) ∈ ([(0#3, none, .addi, "ADDI"), (2#3, none, .slti, "SLTI"), (3#3, none, .sltiu, "SLTIU"),
      (4#3, none, .xori, "XORI"), (6#3, none, .ori, "ORI"), (7#3, none, .andi, "ANDI"),
      (1#3, some 0x00#7, .slli, "SLLI"), (5#3, some 0x00#7, .srli, "SRLI"), (5#3, some 0x20#7, .srai, "SRAI")] :
        List (Funct3 × Option (BitVec 7) × (Reg → Reg → BitVec 12 → Instr) × String)) →
    (∀ w : Word, w.extractLsb' 0 7 = 0x13#7 → w.extractLsb' 12 3 = f3 →
      (∀ x, selector = some x → w.extractLsb' 25 7 = x) →
      decode w = .instr (mk (w.extractLsb' 7 5) (w.extractLsb' 15 5) (w.extractLsb' 20 12))) ∧
    ∀ rd rs1 imm, metaOf (mk rd rs1 imm) =
      { name := name, isLoad := false, isStore := false, isBranch := false, isJump := false
        sourceRegs := .one rs1, destReg := some rd, produceStage := .EX, consumeStage := .ID }

/-- Loads and JALR: one source and a destination; a load has `isLoad` and produces in MEM, JALR has `isJump` and
produces in EX (R90 to R95). Rests on the spec's decisions D4, D7 and D8. -/
def Obligations.LoadAndJalrWordsAndMetadata : Prop :=
  ∀ opc f3 mk name load,
    (opc, f3, mk, name, load) ∈ ([(0x03#7, 0#3, .lb, "LB", true), (0x03#7, 1#3, .lh, "LH", true),
      (0x03#7, 2#3, .lw, "LW", true), (0x03#7, 4#3, .lbu, "LBU", true), (0x03#7, 5#3, .lhu, "LHU", true),
      (0x67#7, 0#3, .jalr, "JALR", false)] :
        List (Opcode × Funct3 × (Reg → Reg → BitVec 12 → Instr) × String × Bool)) →
    (∀ w : Word, w.extractLsb' 0 7 = opc → w.extractLsb' 12 3 = f3 →
      decode w = .instr (mk (w.extractLsb' 7 5) (w.extractLsb' 15 5) (w.extractLsb' 20 12))) ∧
    ∀ rd rs1 imm, metaOf (mk rd rs1 imm) =
      { name := name, isLoad := load, isStore := false, isBranch := false, isJump := !load
        sourceRegs := .one rs1, destReg := some rd, produceStage := if load then .MEM else .EX, consumeStage := .ID }

/-- Stores and branches: two sources and no destination; a store has `isStore`, a branch `isBranch` (R96 to R104).
Rests on the spec's decisions D4, D7, D8 and D24. -/
def Obligations.StoreAndBranchWordsAndMetadata : Prop :=
  (∀ f3 mk name,
    (f3, mk, name) ∈ ([(0#3, .sb, "SB"), (1#3, .sh, "SH"), (2#3, .sw, "SW")] :
      List (Funct3 × (Reg → Reg → BitVec 12 → Instr) × String)) →
    (∀ w : Word, w.extractLsb' 0 7 = 0x23#7 → w.extractLsb' 12 3 = f3 →
      decode w = .instr (mk (w.extractLsb' 15 5) (w.extractLsb' 20 5) (w.extractLsb' 25 7 ++ w.extractLsb' 7 5))) ∧
    ∀ rs1 rs2 imm, metaOf (mk rs1 rs2 imm) =
      { name := name, isLoad := false, isStore := true, isBranch := false, isJump := false
        sourceRegs := .two rs1 rs2, destReg := none, produceStage := .EX, consumeStage := .ID }) ∧
  ∀ f3 mk name,
    (f3, mk, name) ∈ ([(0#3, .beq, "BEQ"), (1#3, .bne, "BNE"), (4#3, .blt, "BLT"), (5#3, .bge, "BGE"),
      (6#3, .bltu, "BLTU"), (7#3, .bgeu, "BGEU")] : List (Funct3 × (Reg → Reg → BitVec 13 → Instr) × String)) →
    (∀ w : Word, w.extractLsb' 0 7 = 0x63#7 → w.extractLsb' 12 3 = f3 →
      decode w = .instr (mk (w.extractLsb' 15 5) (w.extractLsb' 20 5)
        (w.extractLsb' 31 1 ++ w.extractLsb' 7 1 ++ w.extractLsb' 25 6 ++ w.extractLsb' 8 4 ++ 0#1))) ∧
    ∀ rs1 rs2 imm, metaOf (mk rs1 rs2 imm) =
      { name := name, isLoad := false, isStore := false, isBranch := true, isJump := false
        sourceRegs := .two rs1 rs2, destReg := none, produceStage := .EX, consumeStage := .ID }

/-- LUI, AUIPC and JAL: the opcode alone selects the kind; no source, a destination, EX; JAL has `isJump` (R105 to
R107). Rests on the spec's decisions D4, D7 and D8. -/
def Obligations.UpperAndJalWordsAndMetadata : Prop :=
  (∀ w : Word, w.extractLsb' 0 7 = 0x37#7 → decode w = .instr (.lui (w.extractLsb' 7 5) (w.extractLsb' 12 20))) ∧
  (∀ w : Word, w.extractLsb' 0 7 = 0x17#7 → decode w = .instr (.auipc (w.extractLsb' 7 5) (w.extractLsb' 12 20))) ∧
  (∀ w : Word, w.extractLsb' 0 7 = 0x6F#7 → decode w = .instr (.jal (w.extractLsb' 7 5)
    (w.extractLsb' 31 1 ++ w.extractLsb' 12 8 ++ w.extractLsb' 20 1 ++ w.extractLsb' 21 10 ++ 0#1))) ∧
  ∀ rd : Reg,
    let shape (name : String) (jump : Bool) : InstructionMeta :=
      { name := name, isLoad := false, isStore := false, isBranch := false, isJump := jump
        sourceRegs := .none, destReg := some rd, produceStage := .EX, consumeStage := .ID }
    (∀ imm, metaOf (.lui rd imm) = shape "LUI" false) ∧ (∀ imm, metaOf (.auipc rd imm) = shape "AUIPC" false) ∧
    ∀ imm, metaOf (.jal rd imm) = shape "JAL" true

/-- A word with a dispatched opcode whose keys select no kind still decodes, to the placeholder of its format with its
fields, named UNKNOWN and with empty metadata (R63, R64). Rests on the spec's decision D8, and R63, which the spec
derives. -/
def Obligations.UnknownWordsDecodeWithEmptyMetadata : Prop :=
  ∀ (w : Word) (fmt : Fmt), fmtOf (opcodeOf w) = some fmt → resolveKind (opcodeOf w) (fieldsOf fmt w) ∉
      ([.ADD, .SUB, .SLL, .SLT, .SLTU, .XOR, .SRL, .SRA, .OR, .AND, .ADDI, .SLTI, .SLTIU, .XORI, .ORI, .ANDI, .SLLI,
        .SRLI, .SRAI, .LB, .LH, .LW, .LBU, .LHU, .JALR, .SB, .SH, .SW, .BEQ, .BNE, .BLT, .BGE, .BLTU, .BGEU, .LUI,
        .AUIPC, .JAL] : List Kind).map some →
    ∃ i name, decode w = .instr i ∧ i.fields = fieldsOf fmt w ∧ i.kind.name = name ∧
      (fmt, name) ∈ [(Fmt.R, "UNKNOWN_R"), (.I, "UNKNOWN_I"), (.S, "UNKNOWN_S"), (.B, "UNKNOWN_B")] ∧
      metaOf i =
        { name := name, isLoad := false, isStore := false, isBranch := false, isJump := false
          sourceRegs := .none, destReg := none, produceStage := .EX, consumeStage := .ID }

/-- The invariant of every InstructionMeta: it writes a register exactly when it has a destination, and reads one exactly
when it has a source (R18). -/
def Obligations.MetadataFlagsFollowTheOperands : Prop :=
  ∀ m : InstructionMeta, (m.destReg ≠ none ↔ m.writesRegister = true) ∧
    (0 < m.sourceRegs.toList.length ↔ m.readsRegister = true)

/-- Every kind consumes in ID, the loads produce in MEM and every other kind in EX, the bubble too (R19, R20). Rests
on the spec's decisions D7 and D8. -/
def Obligations.StagesOfTheMetadataTable : Prop :=
  (∀ i : Instr, (metaOf i).consumeStage = .ID ∧
    (metaOf i).produceStage = if i.kind ∈ [Kind.LB, .LH, .LW, .LBU, .LHU] then Stage.MEM else Stage.EX) ∧
  bubbleMeta.consumeStage = .ID ∧ bubbleMeta.produceStage = .EX

/-! ### The hazard detector -/

/-- The RAW comparator, as R131 writes it, with the quantities of R129 in the integers and the policy of R130. Rests
on the spec's decisions D10, D11 and D12 (log entry 20). -/
def Obligations.RawComparatorFormula : Prop :=
  ∀ (P : Params) (fwd : Bool) (inflight : List Entry) (c : InstructionMeta) (cStage : Stage),
    raw P fwd inflight c cStage = true ↔
      ¬(P.branchRawExempt = true ∧ c.isBranch = true) ∧
      ∃ p ∈ inflight, ∃ r ∈ c.sourceRegs.toList,
        p.hasStarted = true ∧ p.hasCompleted = false ∧ p.metadata.writesRegister = true ∧
        p.metadata.destReg = some r ∧ ¬(P.x0Exempt = true ∧ r = 0#5) ∧
        (let cons : Int := c.consumeStage.ordinal - cStage.ordinal
         let prod : Int := (if fwd then p.metadata.produceStage.ordinal else 5) - p.currentStage.ordinal
         0 ≤ cons ∧ 0 ≤ prod ∧ match P.cmp with
           | .strict => cons < prod
           | .nonStrict => cons ≤ prod)

/-- The WAR comparator, as R132 writes it: the candidate is the producer and the in-flight entry the consumer; and the
control comparator, as R134 writes it. Rests on the spec's decisions D10, D12 and D13 (log entry 20). -/
def Obligations.WarAndControlComparatorFormulas : Prop :=
  (∀ (P : Params) (fwd : Bool) (inflight : List Entry) (c : InstructionMeta) (cStage : Stage),
    war P fwd inflight c cStage = true ↔
      ∃ p ∈ inflight, ∃ d,
        c.destReg = some d ∧ p.hasStarted = true ∧ p.hasCompleted = false ∧ p.metadata.readsRegister = true ∧
        d ∈ p.metadata.sourceRegs.toList ∧ ¬(P.x0Exempt = true ∧ d = 0#5) ∧
        (let cons : Int := p.metadata.consumeStage.ordinal - p.currentStage.ordinal
         let prod : Int := (if fwd then c.produceStage.ordinal else 5) - cStage.ordinal
         0 ≤ cons ∧ 0 ≤ prod ∧ match P.cmp with
           | .strict => prod ≤ cons
           | .nonStrict => prod < cons)) ∧
  ∀ (inflight : List Entry) (c : InstructionMeta),
    ctrl inflight c = true ↔
      (c.isBranch = true ∨ c.isJump = true) ∧
      ∃ p ∈ inflight, (p.metadata.isBranch = true ∨ p.metadata.isJump = true) ∧ p.hasCompleted = false ∧
        p.currentStage.ordinal ≤ 3

/-- The arbitration signal, as R135 writes it. -/
def Obligations.ArbitrationFormula : Prop :=
  ∀ (s : State) (c : InstructionMeta) (cStage : Stage),
    s.blocked c cStage = true ↔
      (s.cfg.dataHazardEnabled = true ∧
        (raw s.params s.cfg.forwarding s.inflight c cStage = true ∨
          war s.params s.cfg.forwarding s.inflight c cStage = true)) ∨
      (s.cfg.controlHazardEnabled = true ∧ ctrl s.inflight c = true)

/-- WAR never stalls the candidate of a good state, under any configuration, policy or parameter (R133). Rests on
R133, which the spec derives. -/
def Obligations.WarNeverFires : Prop :=
  ∀ (s : State) (c : Cut), s.Inv → s.advanced.candidate? = some c →
    war s.params s.cfg.forwarding s.advanced.inflight c.cand.metadata c.cand.currentStage = false

/-- The order of the in-flight set is irrelevant to the detector (R128). Rests on R128, which the spec derives. -/
def Obligations.InFlightOrderIsIrrelevant : Prop :=
  ∀ (P : Params) (cfg : Cfg) (l₁ l₂ : List Entry) (c : InstructionMeta) (cStage : Stage), l₁.Perm l₂ →
    blockedBy P cfg l₁ c cStage = blockedBy P cfg l₂ c cStage

/-- An UNKNOWN instruction and a bubble never take part in a hazard: as the candidate they are blocked by nothing, and
in flight they block nothing (R64, R126). Rests on the spec's decision D8. -/
def Obligations.UnknownAndBubbleTakeNoPart : Prop :=
  ∀ m : InstructionMeta,
    (m = bubbleMeta ∨ ∃ i : Instr, i.kind ∈ [Kind.UNKNOWN_R, .UNKNOWN_I, .UNKNOWN_S, .UNKNOWN_B] ∧ m = metaOf i) →
    (∀ (P : Params) (cfg : Cfg) (l : List Entry) (cStage : Stage), blockedBy P cfg l m cStage = false) ∧
    ∀ (P : Params) (cfg : Cfg) (l : List Entry) (p : Entry) (c : InstructionMeta) (cStage : Stage), p.metadata = m →
      blockedBy P cfg (p :: l) c cStage = blockedBy P cfg l c cStage

/-- The candidate of a good state is blocked exactly while some earlier slot stands at a distance below the one the
table of R149 requires of the two. Rests on R149, which the spec derives. -/
def Obligations.BlockedExactlyBelowTheRequiredDistance : Prop :=
  ∀ (s : State) (c : Cut), s.Inv → s.advanced.candidate? = some c →
    (s.advanced.blocked c.cand.metadata c.cand.currentStage = true ↔
      ∃ (j : Nat) (p : Entry), c.before[j]? = some p ∧
        c.before.length - j < req s.params s.cfg p.metadata c.cand.metadata)

/-! ### The meanings: what an instruction's turn as the candidate does, family by family -/

/-- The turn of each R kind (R71 to R80, R139, R140): admitted when its own metadata is not blocked, else a bubble.
Rests on the spec's decisions D7, D8, D15 and D23, and on log entries 8 and 9. -/
def Obligations.RegisterKindsTakeTheirTurn : Prop :=
  ∀ rd rs1 rs2 : Reg,
    let m (name : String) : InstructionMeta :=
      { name := name, isLoad := false, isStore := false, isBranch := false, isJump := false
        sourceRegs := .two rs1 rs2, destReg := some rd, produceStage := .EX, consumeStage := .ID }
    TakesTurn (.add rd rs1 rs2) (m "ADD") ∧ TakesTurn (.sub rd rs1 rs2) (m "SUB") ∧
    TakesTurn (.sll rd rs1 rs2) (m "SLL") ∧ TakesTurn (.slt rd rs1 rs2) (m "SLT") ∧
    TakesTurn (.sltu rd rs1 rs2) (m "SLTU") ∧ TakesTurn (.xor rd rs1 rs2) (m "XOR") ∧
    TakesTurn (.srl rd rs1 rs2) (m "SRL") ∧ TakesTurn (.sra rd rs1 rs2) (m "SRA") ∧
    TakesTurn (.or rd rs1 rs2) (m "OR") ∧ TakesTurn (.and rd rs1 rs2) (m "AND")

/-- The turn of each OP-IMM kind (R81 to R89). Rests on the spec's decisions D7, D8, D15 and D23, and on log entries 8
and 9. -/
def Obligations.ImmediateKindsTakeTheirTurn : Prop :=
  ∀ (rd rs1 : Reg) (imm : BitVec 12),
    let m (name : String) : InstructionMeta :=
      { name := name, isLoad := false, isStore := false, isBranch := false, isJump := false
        sourceRegs := .one rs1, destReg := some rd, produceStage := .EX, consumeStage := .ID }
    TakesTurn (.addi rd rs1 imm) (m "ADDI") ∧ TakesTurn (.slti rd rs1 imm) (m "SLTI") ∧
    TakesTurn (.sltiu rd rs1 imm) (m "SLTIU") ∧ TakesTurn (.xori rd rs1 imm) (m "XORI") ∧
    TakesTurn (.ori rd rs1 imm) (m "ORI") ∧ TakesTurn (.andi rd rs1 imm) (m "ANDI") ∧
    TakesTurn (.slli rd rs1 imm) (m "SLLI") ∧ TakesTurn (.srli rd rs1 imm) (m "SRLI") ∧
    TakesTurn (.srai rd rs1 imm) (m "SRAI")

/-- The turn of each load (R90 to R94). No memory is read (R35). Rests on the spec's decisions D8, D15, D19 and D23,
and on log entries 8 and 9. -/
def Obligations.LoadsTakeTheirTurn : Prop :=
  ∀ (rd rs1 : Reg) (imm : BitVec 12),
    let m (name : String) : InstructionMeta :=
      { name := name, isLoad := true, isStore := false, isBranch := false, isJump := false
        sourceRegs := .one rs1, destReg := some rd, produceStage := .MEM, consumeStage := .ID }
    TakesTurn (.lb rd rs1 imm) (m "LB") ∧ TakesTurn (.lh rd rs1 imm) (m "LH") ∧ TakesTurn (.lw rd rs1 imm) (m "LW") ∧
    TakesTurn (.lbu rd rs1 imm) (m "LBU") ∧ TakesTurn (.lhu rd rs1 imm) (m "LHU")

/-- The turn of each store (R96 to R98). No memory is written (R35). Rests on the spec's decisions D7, D8, D15, D19
and D23, and on log entries 8 and 9. -/
def Obligations.StoresTakeTheirTurn : Prop :=
  ∀ (rs1 rs2 : Reg) (imm : BitVec 12),
    let m (name : String) : InstructionMeta :=
      { name := name, isLoad := false, isStore := true, isBranch := false, isJump := false
        sourceRegs := .two rs1 rs2, destReg := none, produceStage := .EX, consumeStage := .ID }
    TakesTurn (.sb rs1 rs2 imm) (m "SB") ∧ TakesTurn (.sh rs1 rs2 imm) (m "SH") ∧ TakesTurn (.sw rs1 rs2 imm) (m "SW")

/-- The turn of each branch (R99 to R104). The sequence is not redirected (R38). Rests on the spec's decisions D7, D8,
D15 and D23, and on log entries 8 and 9. -/
def Obligations.BranchesTakeTheirTurn : Prop :=
  ∀ (rs1 rs2 : Reg) (imm : BitVec 13),
    let m (name : String) : InstructionMeta :=
      { name := name, isLoad := false, isStore := false, isBranch := true, isJump := false
        sourceRegs := .two rs1 rs2, destReg := none, produceStage := .EX, consumeStage := .ID }
    TakesTurn (.beq rs1 rs2 imm) (m "BEQ") ∧ TakesTurn (.bne rs1 rs2 imm) (m "BNE") ∧
    TakesTurn (.blt rs1 rs2 imm) (m "BLT") ∧ TakesTurn (.bge rs1 rs2 imm) (m "BGE") ∧
    TakesTurn (.bltu rs1 rs2 imm) (m "BLTU") ∧ TakesTurn (.bgeu rs1 rs2 imm) (m "BGEU")

/-- The turn of LUI and AUIPC (R105, R106) and of the jumps JAL and JALR (R95, R107). The sequence is not redirected
(R38). Rests on the spec's decisions D7, D8, D15 and D23, and on log entries 8 and 9. -/
def Obligations.UpperKindsAndJumpsTakeTheirTurn : Prop :=
  ∀ rd rs1 : Reg,
    let m (name : String) (jump : Bool) (sources : SourceRegs) : InstructionMeta :=
      { name := name, isLoad := false, isStore := false, isBranch := false, isJump := jump
        sourceRegs := sources, destReg := some rd, produceStage := .EX, consumeStage := .ID }
    (∀ imm, TakesTurn (.lui rd imm) (m "LUI" false .none)) ∧ (∀ imm, TakesTurn (.auipc rd imm) (m "AUIPC" false .none)) ∧
    (∀ imm, TakesTurn (.jal rd imm) (m "JAL" true .none)) ∧
    ∀ imm, TakesTurn (.jalr rd rs1 imm) (m "JALR" true (.one rs1))

/-- An UNKNOWN instruction's turn is always its admission: nothing blocks it, and it occupies a slot like any other
(R63, R64, R139). Rests on the spec's decision D8, and on log entry 9. -/
def Obligations.UnknownKindsAreAlwaysAdmitted : Prop :=
  ∀ (s : State) (c : Cut), s.candidate? = some c → ∀ (rd rs1 rs2 : Reg) (f3 : Funct3) (f7 : Funct7) (imm : BitVec 12),
    exec (.unknownR rd f3 rs1 rs2 f7) s = .next (s.admitted c) ∧
    exec (.unknownIOpImm rd f3 rs1 imm) s = .next (s.admitted c) ∧
    exec (.unknownILoad rd f3 rs1 imm) s = .next (s.admitted c) ∧
    exec (.unknownIJalr rd f3 rs1 imm) s = .next (s.admitted c) ∧
    exec (.unknownS f3 rs1 rs2 imm) s = .next (s.admitted c) ∧
    ∀ immB : BitVec 13, exec (.unknownB f3 rs1 rs2 immB) s = .next (s.admitted c)

/-- Any instruction is admitted when nothing is in flight (R131, R132, R134, R139). Rests on the comparators of R131,
R132 and R134 (decisions D10 to D13), and on log entry 9. -/
def Obligations.AdmittedWhenNothingIsInFlight : Prop :=
  ∀ (i : Instr) (s : State) (c : Cut), s.candidate? = some c → s.inflight = [] → exec i s = .next (s.admitted c)

/-- An instruction acts through its metadata alone: two instructions with the same metadata do the same in every
state, whatever their immediates and keys (R5, R59). Rests on the spec's decision D9, and on log entry 9 (exec does
not look at what the candidate slot holds). -/
def Obligations.OnlyTheMetadataMatters : Prop :=
  ∀ (i j : Instr) (s : State), { metaOf i with name := "" } = { metaOf j with name := "" } → exec i s = exec j s

/-- What no instruction's turn changes (R5, R25, R38, R139, R140): the counter, the switches, the parameters, the
body, the id and the original program counter of every real entry, everything of the entries before the candidate, and
everything but the program counter of those after it, which moves by 4 when a bubble goes in and else stays. Rests on
the spec's decisions D15 and D16 where they touch the bubble and a Step without a candidate, and on log entry 9. -/
def Obligations.TurnLeavesTheRestUnchanged : Prop :=
  ∀ (i : Instr) (s t : State), exec i s = .next t →
    t.cycle = s.cycle ∧ t.cfg = s.cfg ∧ t.params = s.params ∧ t.realIdentities = s.realIdentities ∧
    (s.candidate? = none → t = s) ∧
    ∀ c, s.candidate? = some c →
      t.seq.take c.before.length = c.before ∧
      ((t.seq.length = s.seq.length ∧ t.seq.drop (c.before.length + 1) = c.after) ∨
       (t.seq.length = s.seq.length + 1 ∧
        (t.seq.drop (c.before.length + 1)).map (fun e => { e with programCounter := e.programCounter - 4#32 }) =
          c.cand :: c.after))

/-! ### The step -/

/-- A step runs the decoded instruction that is the candidate: it is that instruction's meaning between sub-steps 1
and 4 (R136), and with no candidate left it is those two alone (R138). Rests on the spec's decisions D16 and D17. -/
def Obligations.StepRunsTheCandidate : Prop :=
  ∀ s : State, s.refusal? = none → s.done = false →
    (∀ (c : Cut) (i : Instr), s.advanced.candidate? = some c → c.cand.body = .real i →
      step s = match exec i s.advanced with
        | .next t => .next t.dropCompleted
        | .fault r => .fault r
        | .refused r => .refused r) ∧
    (s.advanced.candidate? = none → step s = .next s.advanced.dropCompleted)

/-- The word placed by `withFetchWord` is decoded and admitted by the very next step (R122, R124, R139; that a placed
word restarts the run is the model's choice, log entry 12). Rests on the spec's decisions D14, D17 and D28, and on log
entries 11 and 12. -/
def Obligations.PlacedWordRunsNext : Prop :=
  ∀ (s : State) (nbits w : Nat) (i : Instr), s.params.basePC.toNat % 4 = 0 → decodeTableWord nbits w = some i →
    step (s.withFetchWord nbits w) = .next
      { seq := [{ body := .real i, id := 0, programCounter := s.params.basePC
                  originalProgramCounter := s.params.basePC, currentStage := .IF, hasStarted := true
                  hasCompleted := false, inFlight := true }]
        cycle := 1, cfg := s.cfg, params := s.params }

/-- The candidate is the first entry that is neither started nor completed, and there is none exactly when no entry is
so; in a good state it is a real entry and every entry before it has started (R138). Rests on the spec's decision D16.
-/
def Obligations.CandidateIsTheFirstWaitingEntry : Prop :=
  (∀ (s : State) (c : Cut), s.candidate? = some c ↔
    s.seq = c.before ++ c.cand :: c.after ∧ c.cand.hasStarted = false ∧ c.cand.hasCompleted = false ∧
    ∀ e ∈ c.before, ¬(e.hasStarted = false ∧ e.hasCompleted = false)) ∧
  (∀ s : State, s.candidate? = none ↔ ∀ e ∈ s.seq, ¬(e.hasStarted = false ∧ e.hasCompleted = false)) ∧
  ∀ (s : State) (c : Cut), s.Inv → s.advanced.candidate? = some c →
    c.cand.isReal = true ∧ ∀ e ∈ c.before, e.hasStarted = true

/-- Sub-step 1: every in-flight entry of a state whose entries are in their life cycle moves exactly one stage on, and is
completed exactly when that is WB; every other entry is as it was; and what a Step admits stays in IF in that Step
(R137). -/
def Obligations.InFlightEntriesAdvanceOneStage : Prop :=
  (∀ (s : State) (k : Nat) (e : Entry), s.LifeCycles → s.seq[k]? = some e →
    ∃ e', s.advance.seq[k]? = some e' ∧
      (e.inFlight = true → e'.currentStage.ordinal = e.currentStage.ordinal + 1 ∧
        (e'.hasCompleted = true ↔ 5 ≤ e'.currentStage.ordinal) ∧
        e' = { e with currentStage := e'.currentStage, hasCompleted := e'.hasCompleted }) ∧
      (e.inFlight = false → e' = e)) ∧
  ∀ (s t : State) (c : Cut), step s = .next t → s.advanced.candidate? = some c →
    ∃ e, t.seq[c.before.length]? = some e ∧ e.currentStage = .IF

/-- Sub-step 4: the completed entries leave the in-flight set and the others stay in it as they are; every entry stays in
the sequence (R141). -/
def Obligations.CompletedEntriesLeaveTheInFlightSet : Prop :=
  ∀ s : State, s.dropCompleted.inflight = s.inflight.filter (fun e => !e.hasCompleted) ∧
    s.dropCompleted.seq.map (fun e => { e with inFlight := false }) =
      s.seq.map (fun e => { e with inFlight := false })

/-- A Step adds one to the cycle counter (R116); a state in which every entry is completed is the end of the run and
stays as it is (R120, R145; that a clock edge leaves it so is the model's reading, log entry 5); no step changes the
switches or the parameters (R28, R29). Rests on the spec's decisions D17, D27, D28 and D29, and on log entry 5. -/
def Obligations.StepCountsUntilTheEnd : Prop :=
  ∀ s t : State, step s = .next t →
    t.cfg = s.cfg ∧ t.params = s.params ∧
    ((∀ e ∈ s.seq, e.hasCompleted = true) → t = s) ∧
    ((∃ e ∈ s.seq, e.hasCompleted = false) → t.cycle = s.cycle + 1)

/-- A step is refused in exactly the two cases of R110: the base is not a multiple of 4; or a slot stands, or the
bubble this step would insert would put one, at an offset of 2^32 or more (R39; the moment of the refusal is the
model's choice, log entry 8). Rests on the spec's decision D23, and on log entry 8. -/
def Obligations.StepIsRefusedInExactlyTwoCases : Prop :=
  ∀ (s : State) (r : Refusal), step s = .refused r ↔
    (s.params.basePC.toNat % 4 ≠ 0 ∧ r = .misalignedBasePC) ∨
    (s.params.basePC.toNat % 4 = 0 ∧ r = .pcOutOfRange ∧
      ((s.seq ≠ [] ∧ 2 ^ 32 ≤ s.params.basePC.toNat + 4 * (s.seq.length - 1)) ∨
       (s.params.basePC.toNat + 4 * (s.seq.length - 1) < 2 ^ 32 ∧ s.done = false ∧
        2 ^ 32 ≤ s.params.basePC.toNat + 4 * s.seq.length ∧
        ∃ c, s.advanced.candidate? = some c ∧
          s.advanced.blocked c.cand.metadata c.cand.currentStage = true)))

/-- Nothing faults (R108), and only the offset limit stops an instruction: exec always answers a next state, or
refuses with pcOutOfRange a candidate that is blocked with no room below 2^32 (R110); and a step always answers a next
state or one of the two refusals of R110. Rests on the spec's decisions D20 and D23, and on log entries 8, 9 and 17.
-/
def Obligations.NothingFaults : Prop :=
  (∀ (i : Instr) (s : State),
    (∃ t, exec i s = .next t) ∨
    (exec i s = .refused .pcOutOfRange ∧ ∃ c, s.candidate? = some c ∧
      s.blocked (metaOf i) c.cand.currentStage = true ∧ 2 ^ 32 ≤ s.params.basePC.toNat + 4 * s.seq.length)) ∧
  ∀ s : State, (∃ t, step s = .next t) ∨ step s = .refused .misalignedBasePC ∨ step s = .refused .pcOutOfRange

/-- A step destroys no entry and changes no entry's body, id or original program counter: all of them stand after it in
the same order, with at most one bubble among them (R25). -/
def Obligations.StepDestroysNoEntry : Prop :=
  ∀ s t : State, step s = .next t →
    (s.seq.map Entry.identity).Sublist (t.seq.map Entry.identity) ∧ t.realIdentities = s.realIdentities ∧
    (t.seq.length = s.seq.length ∨ t.seq.length = s.seq.length + 1)

/-- In every Step of a good state exactly one entry enters IF while a candidate exists, the candidate or a bubble, and
none when the candidates have run out (R142). Rests on R142, which the spec derives. -/
def Obligations.OneAdmissionPerStep : Prop :=
  ∀ s t : State, s.Inv → s.done = false → step s = .next t →
    (t.inflight.filter fun e => decide (e.currentStage = .IF)).length = if s.advanced.candidate? = none then 0 else 1

/-! ### Invariants -/

/-- The reset state with nothing loaded is good, and has the reset values R34 states: no entry, nothing in flight,
cycle 0. Rests on the spec's decisions D17 and D28, and on log entry 2. -/
def Obligations.EmptyResetIsGood : Prop :=
  State.reset.Inv ∧ State.reset.seq = [] ∧ State.reset.inflight = [] ∧ State.reset.cycle = 0

/-- The reset state of a run, entry by entry (R34, R124). Rests on the spec's decisions D14, D17 and D28. -/
def Obligations.StartStateIsTheResetTable : Prop :=
  ∀ (instrs : List Instr) (cfg : Cfg) (P : Params),
    (start instrs cfg P).seq.length = instrs.length ∧ (start instrs cfg P).inflight = [] ∧
    (start instrs cfg P).cycle = 0 ∧ (start instrs cfg P).cfg = cfg ∧ (start instrs cfg P).params = P ∧
    ∀ (k : Nat) (i : Instr), instrs[k]? = some i → (start instrs cfg P).seq[k]? = some
      { body := .real i, id := k, programCounter := P.basePC + BitVec.ofNat 32 (4 * k)
        originalProgramCounter := P.basePC + BitVec.ofNat 32 (4 * k), currentStage := .notStarted
        hasStarted := false, hasCompleted := false, inFlight := false }

/-- The reset state of every run is good (R34, R37). Rests on the spec's decisions D14 and D17, and R37, which the
spec derives. -/
def Obligations.EveryStartIsGood : Prop :=
  ∀ (instrs : List Instr) (cfg : Cfg) (P : Params), (start instrs cfg P).Inv

/-- Every step keeps the engine invariant: the entry at position `i` is in stage `t - i` in cycle `t` (R147), in
flight exactly while it is between IF and MEM (R27), at `P_basePC + 4·i` (R37), every bubble in its form (R127), and
the counter not past the end (R148). Rests on R24, R27, R37, R147 and R148, which the spec derives, and on log entry
5. -/
def Obligations.StepKeepsTheEngineGood : Prop :=
  ∀ s t : State, s.Inv → step s = .next t → t.Inv

/-- Every step keeps each entry in its life cycle, with the in-flight set equal to the started and not completed
entries, in every state, good or not; a good state is so (R24, R27). Rests on R24 and R27, which the spec derives. -/
def Obligations.StepKeepsTheLifeCycles : Prop :=
  (∀ s t : State, s.LifeCycles → step s = .next t → t.LifeCycles) ∧
  (∀ s : State, s.LifeCycles → ∀ e ∈ s.seq, e.inFlight = (e.hasStarted && !e.hasCompleted)) ∧
  ∀ s : State, s.Inv → s.LifeCycles

/-- Every step keeps slot `i` at `P_basePC + 4·i`, in every state, good or not (R37); with an aligned base every
program counter is then a multiple of 4 (R41). Rests on R37 and R41, which the spec derives. -/
def Obligations.StepKeepsTheSlotNumbering : Prop :=
  (∀ s t : State, s.PcNumbered → step s = .next t → t.PcNumbered) ∧
  ∀ s : State, s.PcNumbered → s.params.basePC.toNat % 4 = 0 → ∀ e ∈ s.seq, e.programCounter.toNat % 4 = 0

/-- In a good state each of IF, ID, EX and MEM holds at most one in-flight entry, and no in-flight entry is elsewhere
(R32). Rests on R32, which the spec derives. -/
def Obligations.AtMostOneEntryPerStage : Prop :=
  ∀ s : State, s.Inv →
    (∀ st ∈ [Stage.IF, .ID, .EX, .MEM], (s.inflight.filter fun e => decide (e.currentStage = st)).length ≤ 1) ∧
    ∀ e ∈ s.inflight, e.currentStage ≠ .notStarted ∧ e.currentStage ≠ .WB

/-- A slot covers the four offsets from its own (R36). Rests on the spec's decision D14. -/
def Obligations.SlotCoversFourOffsets : Prop :=
  ∀ (s : State) (i off : Nat), i < s.seq.length → off < 4 → s.params.basePC.toNat + 4 * i + off < 2 ^ 32 →
    s.slotAt? (BitVec.ofNat 32 (s.params.basePC.toNat + 4 * i + off)) = some i

/-! ### Runs -/

/-- A word that fails decode takes no entry, no id and no program counter: the run starts as if it were not there, and
the words that decode keep their order (R65, R122). Rests on the spec's decision D14. -/
def Obligations.FailedWordsLeaveNoGap : Prop :=
  (∀ (ws₁ ws₂ : List Word) (w : Word) (opc : Opcode) (cfg : Cfg) (P : Params), decode w = .failure opc →
    startWords (ws₁ ++ w :: ws₂) cfg P = startWords (ws₁ ++ ws₂) cfg P) ∧
  ∀ (ws : List Word) (w : Word) (i : Instr), decode w = .instr i → decodeAll (w :: ws) = i :: decodeAll ws

/-- The packing of the switches: bit 0 forwarding, bit 1 data hazards, bit 2 control hazards, both ways (R28). Rests
on the spec's decision D2. -/
def Obligations.ConfigurationWordPacking : Prop :=
  (∀ c : Cfg, Cfg.ofWord c.toWord = c) ∧ (∀ w : BitVec 3, (Cfg.ofWord w).toWord = w) ∧
  ∀ w : BitVec 3, (Cfg.ofWord w).forwarding = w.getLsbD 0 ∧ (Cfg.ofWord w).dataHazardEnabled = w.getLsbD 1 ∧
    (Cfg.ofWord w).controlHazardEnabled = w.getLsbD 2

/-- Every run from an aligned base ends or is refused, and which is decided by the schedule of R149: it is refused
with pcOutOfRange exactly when the last scheduled slot would stand at an offset of 2^32 or more (R39, R110), and for
no other reason; otherwise it ends with every slot completed, after exactly `F + 4` cycles for `F` slots and none for
an empty program, with at most two bubbles for each instruction but the first (R146, R148, R150). Rests on R146, R148,
R149 and R150, which the spec derives, on decisions D17 and D23 and log entries 8 and 25. -/
def Obligations.EveryRunEndsOnTime : Prop :=
  ∀ (instrs : List Instr) (cfg : Cfg) (P : Params), P.basePC.toNat % 4 = 0 →
    (∀ r, runToEnd (stepBound instrs.length) (start instrs cfg P) = .refused r ↔
      r = .pcOutOfRange ∧ ¬ScheduleFits P cfg instrs) ∧
    (ScheduleFits P cfg instrs →
      ∃ t, runToEnd (stepBound instrs.length) (start instrs cfg P) = .next t ∧ t.done = true ∧
        t.cycle = (if t.seq = [] then 0 else t.seq.length + 4) ∧ t.original = instrs.length ∧
        t.bubbles ≤ 2 * (instrs.length - 1))

/-- The final positions of a run's instructions are the schedule the issue distances give: each at the first slot
after the one before it that is at the required distance from every earlier one (R149). Rests on R149, which the spec
derives. -/
def Obligations.FinalPositionsAreTheSchedule : Prop :=
  ∀ (instrs : List Instr) (cfg : Cfg) (P : Params) (k : Nat) (t : State),
    runToEnd k (start instrs cfg P) = .next t → t.done = true → realPositions t.seq = schedule P cfg instrs

/-- The run with forwarding inserts no more bubbles than the run without (R152). Under the strict policy forwarding
removes every RAW stall: in a good state the RAW comparator with forwarding is false for the candidate, whatever the
switches; so the run with forwarding has the very slots of the run with the data switch off, and none but the
program's when the control switch is off too. Rests on R133, R149 and R152, which the spec derives. -/
def Obligations.ForwardingNeverAddsBubbles : Prop :=
  (∀ (instrs : List Instr) (cfg : Cfg) (P : Params) (k₁ k₂ : Nat) (t₁ t₂ : State),
    runToEnd k₁ (start instrs { cfg with forwarding := true } P) = .next t₁ → t₁.done = true →
    runToEnd k₂ (start instrs { cfg with forwarding := false } P) = .next t₂ → t₂.done = true →
    t₁.bubbles ≤ t₂.bubbles ∧ (P.cmp = .strict → cfg.controlHazardEnabled = false → t₁.bubbles = 0)) ∧
  (∀ (s : State) (c : Cut), s.Inv → s.params.cmp = .strict → s.advanced.candidate? = some c →
    raw s.params true s.advanced.inflight c.cand.metadata c.cand.currentStage = false) ∧
  ∀ (instrs : List Instr) (cfg : Cfg) (P : Params) (k₁ k₃ : Nat) (t₁ t₃ : State), P.cmp = .strict →
    runToEnd k₁ (start instrs { cfg with forwarding := true } P) = .next t₁ → t₁.done = true →
    runToEnd k₃ (start instrs { cfg with dataHazardEnabled := false } P) = .next t₃ → t₃.done = true →
    t₁.seq = t₃.seq ∧ t₁.bubbles = t₃.bubbles

/-- With both hazard switches off no step inserts a bubble, in any state (R151). Rests on R151, which the spec
derives. -/
def Obligations.NoSwitchNoBubble : Prop :=
  ∀ s t : State, s.cfg.dataHazardEnabled = false → s.cfg.controlHazardEnabled = false → step s = .next t →
    t.final = s.final ∧ t.bubbles = s.bubbles

/-- The hardware reading with four stage registers, a head pointer and a slot counter is the same machine: it starts
with all of them empty, and one of its cycles takes the reading of a good state to the reading of the next (R32,
R144). Rests on R32 and R144, which the spec derives, on decision D26 and log entry 24. -/
def Obligations.HardwareReadingAgrees : Prop :=
  (∀ (instrs : List Instr) (cfg : Cfg) (P : Params), (start instrs cfg P).hardware =
    { input := instrs, head := 0, slots := 0, ifR := none, idR := none, exR := none, memR := none, trace := []
      cycle := 0, cfg := cfg, params := P }) ∧
  ∀ s t : State, s.Inv → s.done = false → step s = .next t → s.hardware.next = t.hardware

/-- A run is refused in exactly the two cases of R110, the range case decided by the schedule of R149, and every other
run reports (R123, R153, R154): the trace has every slot in order at its program counter and its real bodies are the
input; the summary counts them, with the overhead, the label and the forwarding switch; the cycles are R148's. Rests
on R149, which the spec derives, the spec's decisions D17, D21, D22, D23 and D25, and on log entries 8, 20 and 25. -/
def Obligations.RunReportsTraceAndSummary : Prop :=
  ∀ (instrs : List Instr) (cfg : Cfg) (P : Params),
    (∀ r, run instrs cfg P = .refused r ↔
      (P.basePC.toNat % 4 ≠ 0 ∧ r = .misalignedBasePC) ∨
      (P.basePC.toNat % 4 = 0 ∧ r = .pcOutOfRange ∧ ¬ScheduleFits P cfg instrs)) ∧
    (P.basePC.toNat % 4 = 0 → ScheduleFits P cfg instrs →
    ∃ r, run instrs cfg P = .next (some r) ∧
      (∀ (k : Nat) (x : PC × Body), r.trace[k]? = some x → x.1 = P.basePC + BitVec.ofNat 32 (4 * k)) ∧
      r.trace.filterMap (fun x => match x.2 with | .real i => some i | .bubble => none) = instrs ∧
      r.summary =
        { original := instrs.length, final := r.trace.length, bubbles := r.trace.length - instrs.length
          overhead := overhead (r.trace.length - instrs.length) instrs.length
          label := match cfg.dataHazardEnabled, cfg.controlHazardEnabled with
            | true, false => .data
            | false, true => .control
            | true, true => .integrated
            | false, false => .noControl
          forwarding := cfg.forwarding } ∧
      r.cycles = if r.trace = [] then 0 else r.trace.length + 4)

/-- The overhead is the exact rational `bubbles / original * 100` in lowest terms, and none for an empty program
(R154). Rests on the spec's decision D22, and on log entry 14. -/
def Obligations.OverheadIsTheExactRational : Prop :=
  ∀ bubbles original : Nat,
    (original = 0 → overhead bubbles original = none) ∧
    (original ≠ 0 → ∃ p, overhead bubbles original = some p ∧ p.den ≠ 0 ∧ Nat.Coprime p.num p.den ∧
      (p.num : ℚ) / p.den = (bubbles : ℚ) / original * 100)
end

