-- ==== Sys2Proof/Laws/Decode.lean ====
section
/-! SUPPORT. The fields of a word the encoder builds are the fields it was built from, format by format; and a word is
put together again from its own fields. Each proof compares two bit vectors bit by bit. -/

namespace Sys2Proof

/-! ### Reading back what the encoder wrote -/

section
variable (opc : Opcode) (rd rs1 rs2 : Reg) (f3 : Funct3) (f7 : Funct7)

theorem fields_encodeR :
    opcodeOf (encodeR f7 rs2 rs1 f3 rd opc) = opc ∧
    rdOf (encodeR f7 rs2 rs1 f3 rd opc) = rd ∧
    funct3Of (encodeR f7 rs2 rs1 f3 rd opc) = f3 ∧
    rs1Of (encodeR f7 rs2 rs1 f3 rd opc) = rs1 ∧
    rs2Of (encodeR f7 rs2 rs1 f3 rd opc) = rs2 ∧
    funct7Of (encodeR f7 rs2 rs1 f3 rd opc) = f7 := by
  refine ⟨?_, ?_, ?_, ?_, ?_, ?_⟩ <;> apply BitVec.eq_of_getLsbD_eq <;> intro i hi <;>
    simp only [opcodeOf, rdOf, funct3Of, rs1Of, rs2Of, funct7Of, bits, encodeR, BitVec.getLsbD_append,
      BitVec.getLsbD_extractLsb'] <;> interval_cases i <;> rfl

theorem fields_encodeI (imm : BitVec 12) :
    opcodeOf (encodeI imm rs1 f3 rd opc) = opc ∧
    rdOf (encodeI imm rs1 f3 rd opc) = rd ∧
    funct3Of (encodeI imm rs1 f3 rd opc) = f3 ∧
    rs1Of (encodeI imm rs1 f3 rd opc) = rs1 ∧
    immIOf (encodeI imm rs1 f3 rd opc) = imm := by
  refine ⟨?_, ?_, ?_, ?_, ?_⟩ <;> apply BitVec.eq_of_getLsbD_eq <;> intro i hi <;>
    simp only [opcodeOf, rdOf, funct3Of, rs1Of, immIOf, bits, encodeI, BitVec.getLsbD_append,
      BitVec.getLsbD_extractLsb'] <;> interval_cases i <;> rfl

theorem fields_encodeS (imm : BitVec 12) :
    opcodeOf (encodeS imm rs2 rs1 f3 opc) = opc ∧
    funct3Of (encodeS imm rs2 rs1 f3 opc) = f3 ∧
    rs1Of (encodeS imm rs2 rs1 f3 opc) = rs1 ∧
    rs2Of (encodeS imm rs2 rs1 f3 opc) = rs2 ∧
    immSOf (encodeS imm rs2 rs1 f3 opc) = imm := by
  refine ⟨?_, ?_, ?_, ?_, ?_⟩ <;> apply BitVec.eq_of_getLsbD_eq <;> intro i hi <;>
    simp only [opcodeOf, funct3Of, rs1Of, rs2Of, immSOf, bits, encodeS, BitVec.getLsbD_append,
      BitVec.getLsbD_extractLsb'] <;> interval_cases i <;> rfl

theorem fields_encodeB (imm : BitVec 13) (h : evenB imm = true) :
    opcodeOf (encodeB imm rs2 rs1 f3 opc) = opc ∧
    funct3Of (encodeB imm rs2 rs1 f3 opc) = f3 ∧
    rs1Of (encodeB imm rs2 rs1 f3 opc) = rs1 ∧
    rs2Of (encodeB imm rs2 rs1 f3 opc) = rs2 ∧
    immBOf (encodeB imm rs2 rs1 f3 opc) = imm := by
  have h0 : imm.getLsbD 0 = false := by simpa [evenB] using h
  refine ⟨?_, ?_, ?_, ?_, ?_⟩ <;> apply BitVec.eq_of_getLsbD_eq <;> intro i hi <;>
    simp only [opcodeOf, funct3Of, rs1Of, rs2Of, immBOf, bits, encodeB, BitVec.getLsbD_append,
      BitVec.getLsbD_extractLsb'] <;> interval_cases i <;> first | rfl | exact h0.symm

theorem fields_encodeU (imm : BitVec 20) :
    opcodeOf (encodeU imm rd opc) = opc ∧
    rdOf (encodeU imm rd opc) = rd ∧
    immUOf (encodeU imm rd opc) = imm := by
  refine ⟨?_, ?_, ?_⟩ <;> apply BitVec.eq_of_getLsbD_eq <;> intro i hi <;>
    simp only [opcodeOf, rdOf, immUOf, bits, encodeU, BitVec.getLsbD_append,
      BitVec.getLsbD_extractLsb'] <;> interval_cases i <;> rfl

theorem fields_encodeJ (imm : BitVec 21) (h : evenJ imm = true) :
    opcodeOf (encodeJ imm rd opc) = opc ∧
    rdOf (encodeJ imm rd opc) = rd ∧
    immJOf (encodeJ imm rd opc) = imm := by
  have h0 : imm.getLsbD 0 = false := by simpa [evenJ] using h
  refine ⟨?_, ?_, ?_⟩ <;> apply BitVec.eq_of_getLsbD_eq <;> intro i hi <;>
    simp only [opcodeOf, rdOf, immJOf, bits, encodeJ, BitVec.getLsbD_append,
      BitVec.getLsbD_extractLsb'] <;> interval_cases i <;> first | rfl | exact h0.symm

end

/-! ### Putting a word together again -/

section
variable (w : Word)

theorem encodeR_fields : encodeR (funct7Of w) (rs2Of w) (rs1Of w) (funct3Of w) (rdOf w) (opcodeOf w) = w := by
  apply BitVec.eq_of_getLsbD_eq
  intro i hi
  simp only [opcodeOf, rdOf, funct3Of, rs1Of, rs2Of, funct7Of, bits, encodeR, BitVec.getLsbD_append,
    BitVec.getLsbD_extractLsb']
  interval_cases i <;> rfl

theorem encodeI_fields : encodeI (immIOf w) (rs1Of w) (funct3Of w) (rdOf w) (opcodeOf w) = w := by
  apply BitVec.eq_of_getLsbD_eq
  intro i hi
  simp only [opcodeOf, rdOf, funct3Of, rs1Of, immIOf, bits, encodeI, BitVec.getLsbD_append,
    BitVec.getLsbD_extractLsb']
  interval_cases i <;> rfl

theorem encodeS_fields : encodeS (immSOf w) (rs2Of w) (rs1Of w) (funct3Of w) (opcodeOf w) = w := by
  apply BitVec.eq_of_getLsbD_eq
  intro i hi
  simp only [opcodeOf, funct3Of, rs1Of, rs2Of, immSOf, bits, encodeS, BitVec.getLsbD_append,
    BitVec.getLsbD_extractLsb']
  interval_cases i <;> rfl

theorem encodeB_fields : encodeB (immBOf w) (rs2Of w) (rs1Of w) (funct3Of w) (opcodeOf w) = w := by
  apply BitVec.eq_of_getLsbD_eq
  intro i hi
  simp only [opcodeOf, funct3Of, rs1Of, rs2Of, immBOf, bits, encodeB, BitVec.getLsbD_append,
    BitVec.getLsbD_extractLsb']
  interval_cases i <;> rfl

theorem encodeU_fields : encodeU (immUOf w) (rdOf w) (opcodeOf w) = w := by
  apply BitVec.eq_of_getLsbD_eq
  intro i hi
  simp only [opcodeOf, rdOf, immUOf, bits, encodeU, BitVec.getLsbD_append,
    BitVec.getLsbD_extractLsb']
  interval_cases i <;> rfl

theorem encodeJ_fields : encodeJ (immJOf w) (rdOf w) (opcodeOf w) = w := by
  apply BitVec.eq_of_getLsbD_eq
  intro i hi
  simp only [opcodeOf, rdOf, immJOf, bits, encodeJ, BitVec.getLsbD_append,
    BitVec.getLsbD_extractLsb']
  interval_cases i <;> rfl

/-- The immediates the decoder builds are even where R55 and R57 say so. -/
theorem evenB_immBOf : evenB (immBOf w) = true := by
  simp only [evenB, immBOf, BitVec.getLsbD_append]
  rfl

theorem evenJ_immJOf : evenJ (immJOf w) = true := by
  simp only [evenJ, immJOf, BitVec.getLsbD_append]
  rfl

end

end Sys2Proof
end

