-- ==== Sys2Proof/Laws/State.lean ====
section
/-! SUPPORT. One lemma per field per update of an entry and of the state, each true by unfolding, so that no later proof
unfolds a record update. -/

namespace Sys2Proof.Machine

/-! ### Entries -/

section
variable (e : Entry) (pc : PC)

@[simp] theorem Entry.enter_body : e.enter.body = e.body := rfl
@[simp] theorem Entry.enter_id : e.enter.id = e.id := rfl
@[simp] theorem Entry.enter_programCounter : e.enter.programCounter = e.programCounter := rfl
@[simp] theorem Entry.enter_originalProgramCounter : e.enter.originalProgramCounter = e.originalProgramCounter := rfl
@[simp] theorem Entry.enter_currentStage : e.enter.currentStage = .IF := rfl
@[simp] theorem Entry.enter_hasStarted : e.enter.hasStarted = true := rfl
@[simp] theorem Entry.enter_hasCompleted : e.enter.hasCompleted = e.hasCompleted := rfl
@[simp] theorem Entry.enter_inFlight : e.enter.inFlight = true := rfl

@[simp] theorem Entry.shift_body : e.shift.body = e.body := rfl
@[simp] theorem Entry.shift_id : e.shift.id = e.id := rfl
@[simp] theorem Entry.shift_programCounter : e.shift.programCounter = e.programCounter + 4#32 := rfl
@[simp] theorem Entry.shift_originalProgramCounter : e.shift.originalProgramCounter = e.originalProgramCounter := rfl
@[simp] theorem Entry.shift_currentStage : e.shift.currentStage = e.currentStage := rfl
@[simp] theorem Entry.shift_hasStarted : e.shift.hasStarted = e.hasStarted := rfl
@[simp] theorem Entry.shift_hasCompleted : e.shift.hasCompleted = e.hasCompleted := rfl
@[simp] theorem Entry.shift_inFlight : e.shift.inFlight = e.inFlight := rfl

@[simp] theorem Entry.drop_body : e.drop.body = e.body := rfl
@[simp] theorem Entry.drop_id : e.drop.id = e.id := rfl
@[simp] theorem Entry.drop_programCounter : e.drop.programCounter = e.programCounter := rfl
@[simp] theorem Entry.drop_originalProgramCounter : e.drop.originalProgramCounter = e.originalProgramCounter := rfl
@[simp] theorem Entry.drop_currentStage : e.drop.currentStage = e.currentStage := rfl
@[simp] theorem Entry.drop_hasStarted : e.drop.hasStarted = e.hasStarted := rfl
@[simp] theorem Entry.drop_hasCompleted : e.drop.hasCompleted = e.hasCompleted := rfl
@[simp] theorem Entry.drop_inFlight : e.drop.inFlight = (e.inFlight && !e.hasCompleted) := rfl

/-- The fields sub-step 1 writes, and those it leaves (R137). -/
@[simp] theorem Entry.advance_currentStage :
    e.advance.currentStage = if e.inFlight then e.currentStage.next else e.currentStage := by
  unfold Entry.advance; split <;> rfl
@[simp] theorem Entry.advance_hasCompleted :
    e.advance.hasCompleted = (e.hasCompleted || (e.inFlight && e.currentStage.next.completes)) := by
  unfold Entry.advance; split <;> simp [*]
@[simp] theorem Entry.advance_body : e.advance.body = e.body := by unfold Entry.advance; split <;> rfl
@[simp] theorem Entry.advance_id : e.advance.id = e.id := by unfold Entry.advance; split <;> rfl
@[simp] theorem Entry.advance_programCounter : e.advance.programCounter = e.programCounter := by
  unfold Entry.advance; split <;> rfl
@[simp] theorem Entry.advance_originalProgramCounter :
    e.advance.originalProgramCounter = e.originalProgramCounter := by unfold Entry.advance; split <;> rfl
@[simp] theorem Entry.advance_hasStarted : e.advance.hasStarted = e.hasStarted := by
  unfold Entry.advance; split <;> rfl
@[simp] theorem Entry.advance_inFlight : e.advance.inFlight = e.inFlight := by unfold Entry.advance; split <;> rfl

@[simp] theorem newBubble_body : (newBubble pc).body = .bubble := rfl
@[simp] theorem newBubble_id : (newBubble pc).id = -1 := rfl
@[simp] theorem newBubble_programCounter : (newBubble pc).programCounter = pc := rfl
@[simp] theorem newBubble_originalProgramCounter : (newBubble pc).originalProgramCounter = pc := rfl
@[simp] theorem newBubble_currentStage : (newBubble pc).currentStage = .IF := rfl
@[simp] theorem newBubble_hasStarted : (newBubble pc).hasStarted = true := rfl
@[simp] theorem newBubble_hasCompleted : (newBubble pc).hasCompleted = false := rfl
@[simp] theorem newBubble_inFlight : (newBubble pc).inFlight = true := rfl

/-! What depends on the body alone is kept by every update. -/

@[simp] theorem Entry.isReal_enter : e.enter.isReal = e.isReal := (rfl)
@[simp] theorem Entry.isReal_shift : e.shift.isReal = e.isReal := (rfl)
@[simp] theorem Entry.isReal_drop : e.drop.isReal = e.isReal := (rfl)
@[simp] theorem Entry.isReal_advance : e.advance.isReal = e.isReal := by simp [Entry.isReal]
@[simp] theorem isReal_newBubble : (newBubble pc).isReal = false := (rfl)
@[simp] theorem Entry.metadata_enter : e.enter.metadata = e.metadata := (rfl)
@[simp] theorem Entry.metadata_shift : e.shift.metadata = e.metadata := (rfl)
@[simp] theorem Entry.metadata_drop : e.drop.metadata = e.metadata := (rfl)
@[simp] theorem Entry.metadata_advance : e.advance.metadata = e.metadata := by simp [Entry.metadata]
@[simp] theorem metadata_newBubble : (newBubble pc).metadata = bubbleMeta := (rfl)
@[simp] theorem Entry.instr?_enter : e.enter.instr? = e.instr? := (rfl)
@[simp] theorem Entry.instr?_shift : e.shift.instr? = e.instr? := (rfl)
@[simp] theorem Entry.instr?_drop : e.drop.instr? = e.instr? := (rfl)
@[simp] theorem Entry.instr?_advance : e.advance.instr? = e.instr? := by simp [Entry.instr?]
@[simp] theorem instr?_newBubble : (newBubble pc).instr? = none := (rfl)
@[simp] theorem Entry.identity_enter : e.enter.identity = e.identity := (rfl)
@[simp] theorem Entry.identity_shift : e.shift.identity = e.identity := (rfl)
@[simp] theorem Entry.identity_drop : e.drop.identity = e.identity := (rfl)
@[simp] theorem Entry.identity_advance : e.advance.identity = e.identity := by simp [Entry.identity]

end

/-! ### The state -/

section
variable (s : State) (c : Cut)

@[simp] theorem State.tick_seq : s.tick.seq = s.seq := rfl
@[simp] theorem State.tick_cycle : s.tick.cycle = s.cycle + 1 := rfl
@[simp] theorem State.tick_cfg : s.tick.cfg = s.cfg := rfl
@[simp] theorem State.tick_params : s.tick.params = s.params := rfl

@[simp] theorem State.advance_seq : s.advance.seq = s.seq.map Entry.advance := rfl
@[simp] theorem State.advance_cycle : s.advance.cycle = s.cycle := rfl
@[simp] theorem State.advance_cfg : s.advance.cfg = s.cfg := rfl
@[simp] theorem State.advance_params : s.advance.params = s.params := rfl

@[simp] theorem State.advanced_seq : s.advanced.seq = s.seq.map Entry.advance := rfl
@[simp] theorem State.advanced_cycle : s.advanced.cycle = s.cycle + 1 := rfl
@[simp] theorem State.advanced_cfg : s.advanced.cfg = s.cfg := rfl
@[simp] theorem State.advanced_params : s.advanced.params = s.params := rfl

@[simp] theorem State.enter_seq : (s.enter c).seq = c.before ++ c.cand.enter :: c.after := rfl
@[simp] theorem State.enter_cycle : (s.enter c).cycle = s.cycle := rfl
@[simp] theorem State.enter_cfg : (s.enter c).cfg = s.cfg := rfl
@[simp] theorem State.enter_params : (s.enter c).params = s.params := rfl

@[simp] theorem State.insertBubble_seq : (s.insertBubble c).seq =
    c.before ++ newBubble c.cand.programCounter :: c.cand.shift :: c.after.map Entry.shift := rfl
@[simp] theorem State.insertBubble_cycle : (s.insertBubble c).cycle = s.cycle := rfl
@[simp] theorem State.insertBubble_cfg : (s.insertBubble c).cfg = s.cfg := rfl
@[simp] theorem State.insertBubble_params : (s.insertBubble c).params = s.params := rfl

@[simp] theorem State.dropCompleted_seq : s.dropCompleted.seq = s.seq.map Entry.drop := rfl
@[simp] theorem State.dropCompleted_cycle : s.dropCompleted.cycle = s.cycle := rfl
@[simp] theorem State.dropCompleted_cfg : s.dropCompleted.cfg = s.cfg := rfl
@[simp] theorem State.dropCompleted_params : s.dropCompleted.params = s.params := rfl

end

end Sys2Proof.Machine
end

