-- ==== Sys2Proof/Laws/Ops.lean ====
section
/-! SUPPORT. One lemma for each shared operation that says once everything it can do: the candidate, the arbitration,
every meaning as the arbitration with its metadata, the clock edge. -/

namespace Sys2Proof.Machine

/-! ### The candidate (R138) -/

/-- A cut is the list taken apart at its first waiting entry. -/
theorem cutAtCandidate_some {l : List Entry} {c : Cut} (h : cutAtCandidate l = some c) :
    l = c.before ++ c.cand :: c.after ∧ c.cand.isWaiting = true ∧ ∀ e ∈ c.before, e.isWaiting = false := by
  induction l generalizing c with
  | nil => simp [cutAtCandidate] at h
  | cons x xs ih =>
    unfold cutAtCandidate at h
    split at h
    · obtain rfl := Option.some.inj h
      simp [*]
    · obtain ⟨d, hd, rfl⟩ := Option.map_eq_some_iff.mp h
      obtain ⟨h1, h2, h3⟩ := ih hd
      refine ⟨by simp [h1], h2, ?_⟩
      simpa [*] using h3

/-- There is no cut exactly when no entry waits. -/
theorem cutAtCandidate_none {l : List Entry} : cutAtCandidate l = none ↔ ∀ e ∈ l, e.isWaiting = false := by
  induction l with
  | nil => simp [cutAtCandidate]
  | cons x xs ih =>
    unfold cutAtCandidate
    split <;> simp_all

/-- Taken apart at its first waiting entry, a list has that cut. -/
theorem cutAtCandidate_append {b a : List Entry} {x : Entry} (hx : x.isWaiting = true)
    (hb : ∀ e ∈ b, e.isWaiting = false) : cutAtCandidate (b ++ x :: a) = some { before := b, cand := x, after := a } := by
  induction b with
  | nil => simp [cutAtCandidate, hx]
  | cons y ys ih => simp_all [cutAtCandidate]

/-! ### The arbitration (R139, R140) -/

/-- Everything the arbitration can answer. -/
theorem arbitrate_cases (m : InstructionMeta) (s : State) :
    (s.candidate? = none ∧ arbitrate m s = .next s)
    ∨ (∃ c, s.candidate? = some c ∧ s.blocked m c.cand.currentStage = false ∧ arbitrate m s = .next (s.enter c))
    ∨ (∃ c, s.candidate? = some c ∧ s.blocked m c.cand.currentStage = true ∧
        Params.fits s.params (s.seq.length + 1) = true ∧ arbitrate m s = .next (s.insertBubble c))
    ∨ (∃ c, s.candidate? = some c ∧ s.blocked m c.cand.currentStage = true ∧
        Params.fits s.params (s.seq.length + 1) = false ∧ arbitrate m s = .refused .pcOutOfRange) := by
  unfold arbitrate
  cases h : s.candidate? with
  | none => simp
  | some c =>
    cases hb : s.blocked m c.cand.currentStage
    · simp [hb]
    · cases Params.fits s.params (s.seq.length + 1) <;> simp [hb]

/-- The states the arbitration can answer. -/
theorem arbitrate_next {m : InstructionMeta} {s t : State} (h : arbitrate m s = .next t) :
    (s.candidate? = none ∧ t = s)
    ∨ (∃ c, s.candidate? = some c ∧ s.blocked m c.cand.currentStage = false ∧ t = s.enter c)
    ∨ (∃ c, s.candidate? = some c ∧ s.blocked m c.cand.currentStage = true ∧
        Params.fits s.params (s.seq.length + 1) = true ∧ t = s.insertBubble c) := by
  rcases arbitrate_cases m s with ⟨h1, h2⟩ | ⟨c, h1, h2, h3⟩ | ⟨c, h1, h2, h3, h4⟩ | ⟨c, h1, h2, h3, h4⟩ <;>
    simp_all

/-- Every meaning is the arbitration with the instruction's own metadata (R5). -/
theorem exec_eq (i : Instr) (s : State) : exec i s = arbitrate (metaOf i) s := by
  cases i <;> rfl

/-! ### The clock edge (R110, R136, R145) -/

/-- The turn of the candidate is the arbitration with the candidate's metadata, a bubble's too. -/
theorem issue_eq (s : State) :
    issue s = match s.candidate? with
      | none => .next s
      | some c => arbitrate c.cand.metadata s := by
  unfold issue
  cases s.candidate? with
  | none => rfl
  | some c =>
    cases hb : c.cand.body with
    | real i => simp [Entry.metadata, Body.metadata, hb, exec_eq]
    | bubble => simp [Entry.metadata, Body.metadata, hb]

/-- The states the turn of the candidate can answer. -/
theorem issue_next {s t : State} (h : issue s = .next t) :
    (s.candidate? = none ∧ t = s)
    ∨ (∃ c, s.candidate? = some c ∧ s.blocked c.cand.metadata c.cand.currentStage = false ∧ t = s.enter c)
    ∨ (∃ c, s.candidate? = some c ∧ s.blocked c.cand.metadata c.cand.currentStage = true ∧
        Params.fits s.params (s.seq.length + 1) = true ∧ t = s.insertBubble c) := by
  rw [issue_eq] at h
  cases hc : s.candidate? with
  | none => simp_all
  | some c =>
    rw [hc] at h
    rcases arbitrate_next h with h1 | ⟨d, h1, h2, h3⟩ | ⟨d, h1, h2, h3, h4⟩ <;> simp_all

/-- Everything a step that answers a state can have done: nothing, at the end of the run, or one Step. -/
theorem step_next {s t : State} (h : step s = .next t) :
    s.refusal? = none ∧
    ((s.done = true ∧ t = s) ∨ (s.done = false ∧ ∃ u, issue s.advanced = .next u ∧ t = u.dropCompleted)) := by
  unfold step clockEdge at h
  cases hr : s.refusal? with
  | some r => simp [hr] at h
  | none =>
    simp only [hr] at h
    cases hd : s.done with
    | true => simp_all
    | false =>
      simp only [hd, engineStep, Bool.false_eq_true, if_false] at h
      cases hi : issue s.advanced with
      | next u => simp_all [dropOutcome]
      | fault r => cases r
      | refused r => simp [hi, dropOutcome] at h

/-- The refusal of a state is none exactly when the base is aligned and the slots fit (R110). -/
theorem refusal?_eq_none {s : State} :
    s.refusal? = none ↔ Params.aligned s.params = true ∧ Params.fits s.params s.seq.length = true := by
  unfold State.refusal?
  cases Params.aligned s.params <;> cases Params.fits s.params s.seq.length <;> simp

/-- Whether `n` slots fit below 2^32, in the naturals (R39). -/
theorem fits_iff {P : Params} {n : Nat} : Params.fits P n = true ↔ n = 0 ∨ P.basePC.toNat + 4 * (n - 1) < 2 ^ 32 := by
  rw [Params.fits, Bool.or_eq_true, decide_eq_true_eq, beq_iff_eq, pcIncrement]

/-- When one slot more than `n` does not fit, its offset is out of range (R39, R110). -/
theorem out_of_range_of_not_fits {P : Params} {n : Nat} (h : Params.fits P (n + 1) = false) :
    2 ^ 32 ≤ P.basePC.toNat + 4 * n := by
  have hn : ¬(n + 1 = 0 ∨ P.basePC.toNat + 4 * (n + 1 - 1) < 2 ^ 32) := fun hf =>
    Bool.false_ne_true (h.symm.trans (fits_iff.mpr hf))
  omega

/-- Fewer slots fit where more do. -/
theorem fits_mono {P : Params} {m n : Nat} (h : m ≤ n) (hn : Params.fits P n = true) : Params.fits P m = true := by
  rw [fits_iff] at *
  omega

end Sys2Proof.Machine
end

