-- ==== Sys2Proof/Laws/Hazard.lean ====
section
/-! SUPPORT. What each comparator says, once, in terms of membership (R131, R132, R134, R135). -/

namespace Sys2Proof.Machine

theorem raw_iff {P : Params} {fwd : Bool} {l : List Entry} {c : InstructionMeta} {st : Stage} :
    raw P fwd l c st = true ↔
      ¬(P.branchRawExempt = true ∧ c.isBranch = true) ∧
      ∃ p ∈ l, ∃ r ∈ c.sourceRegs.toList, rawOn P fwd c st p r = true := by
  unfold raw
  cases hb : P.branchRawExempt <;> cases hc : c.isBranch <;> simp

theorem war_iff {P : Params} {fwd : Bool} {l : List Entry} {c : InstructionMeta} {st : Stage} :
    war P fwd l c st = true ↔ ∃ d, c.destReg = some d ∧ ∃ p ∈ l, warOn P fwd c st p d = true := by
  unfold war
  cases hd : c.destReg <;> simp

theorem ctrl_iff {l : List Entry} {c : InstructionMeta} :
    ctrl l c = true ↔ c.isControl = true ∧
      ∃ p ∈ l, p.metadata.isControl = true ∧ p.hasCompleted = false ∧ p.currentStage.ordinal ≤ Stage.EX.ordinal := by
  simp [ctrl, and_assoc]

theorem blockedBy_iff {P : Params} {cfg : Cfg} {l : List Entry} {c : InstructionMeta} {st : Stage} :
    blockedBy P cfg l c st = true ↔
      (cfg.dataHazardEnabled = true ∧ (raw P cfg.forwarding l c st = true ∨ war P cfg.forwarding l c st = true))
      ∨ (cfg.controlHazardEnabled = true ∧ ctrl l c = true) := by
  simp [blockedBy]

/-- Every meta of the table consumes in ID (R19) and produces in EX or MEM (R20). -/
theorem metaOf_stages (i : Instr) :
    (metaOf i).consumeStage = .ID ∧ ((metaOf i).produceStage = .EX ∨ (metaOf i).produceStage = .MEM) := by
  cases i <;> exact ⟨rfl, by first | exact .inl rfl | exact .inr rfl⟩

theorem metadata_stages (e : Entry) :
    e.metadata.consumeStage = .ID ∧ (e.metadata.produceStage = .EX ∨ e.metadata.produceStage = .MEM) := by
  unfold Entry.metadata Body.metadata
  split
  · exact metaOf_stages _
  · exact ⟨rfl, .inl rfl⟩

end Sys2Proof.Machine
end

