-- ==== Sys2Proof/Laws/PerInstr.lean ====
section
/-! SUPPORT. The family LowOpcodeBits, one lemma per instruction: the word the encoder builds has the instruction's
opcode in its low seven bits, and that opcode is dispatched to the instruction's format (R50, R51). -/

namespace Sys2Proof.Laws.LowOpcodeBits

/-- The low seven bits of the encoded word are the opcode, and the opcode is dispatched to the format. -/
def Statement (i : Instr) : Prop :=
  i.wf = true → opcodeOf (encode i) = i.opcode ∧ fmtOf i.opcode = some i.fmt

theorem add (rd : Reg) (rs1 : Reg) (rs2 : Reg) : Statement (.add rd rs1 rs2) :=
  fun _ => ⟨(fields_encodeR ..).1, rfl⟩

theorem sub (rd : Reg) (rs1 : Reg) (rs2 : Reg) : Statement (.sub rd rs1 rs2) :=
  fun _ => ⟨(fields_encodeR ..).1, rfl⟩

theorem sll (rd : Reg) (rs1 : Reg) (rs2 : Reg) : Statement (.sll rd rs1 rs2) :=
  fun _ => ⟨(fields_encodeR ..).1, rfl⟩

theorem slt (rd : Reg) (rs1 : Reg) (rs2 : Reg) : Statement (.slt rd rs1 rs2) :=
  fun _ => ⟨(fields_encodeR ..).1, rfl⟩

theorem sltu (rd : Reg) (rs1 : Reg) (rs2 : Reg) : Statement (.sltu rd rs1 rs2) :=
  fun _ => ⟨(fields_encodeR ..).1, rfl⟩

theorem xor (rd : Reg) (rs1 : Reg) (rs2 : Reg) : Statement (.xor rd rs1 rs2) :=
  fun _ => ⟨(fields_encodeR ..).1, rfl⟩

theorem srl (rd : Reg) (rs1 : Reg) (rs2 : Reg) : Statement (.srl rd rs1 rs2) :=
  fun _ => ⟨(fields_encodeR ..).1, rfl⟩

theorem sra (rd : Reg) (rs1 : Reg) (rs2 : Reg) : Statement (.sra rd rs1 rs2) :=
  fun _ => ⟨(fields_encodeR ..).1, rfl⟩

theorem or (rd : Reg) (rs1 : Reg) (rs2 : Reg) : Statement (.or rd rs1 rs2) :=
  fun _ => ⟨(fields_encodeR ..).1, rfl⟩

theorem and (rd : Reg) (rs1 : Reg) (rs2 : Reg) : Statement (.and rd rs1 rs2) :=
  fun _ => ⟨(fields_encodeR ..).1, rfl⟩

theorem addi (rd : Reg) (rs1 : Reg) (imm : BitVec 12) : Statement (.addi rd rs1 imm) :=
  fun _ => ⟨(fields_encodeI ..).1, rfl⟩

theorem slti (rd : Reg) (rs1 : Reg) (imm : BitVec 12) : Statement (.slti rd rs1 imm) :=
  fun _ => ⟨(fields_encodeI ..).1, rfl⟩

theorem sltiu (rd : Reg) (rs1 : Reg) (imm : BitVec 12) : Statement (.sltiu rd rs1 imm) :=
  fun _ => ⟨(fields_encodeI ..).1, rfl⟩

theorem xori (rd : Reg) (rs1 : Reg) (imm : BitVec 12) : Statement (.xori rd rs1 imm) :=
  fun _ => ⟨(fields_encodeI ..).1, rfl⟩

theorem ori (rd : Reg) (rs1 : Reg) (imm : BitVec 12) : Statement (.ori rd rs1 imm) :=
  fun _ => ⟨(fields_encodeI ..).1, rfl⟩

theorem andi (rd : Reg) (rs1 : Reg) (imm : BitVec 12) : Statement (.andi rd rs1 imm) :=
  fun _ => ⟨(fields_encodeI ..).1, rfl⟩

theorem slli (rd : Reg) (rs1 : Reg) (imm : BitVec 12) : Statement (.slli rd rs1 imm) :=
  fun _ => ⟨(fields_encodeI ..).1, rfl⟩

theorem srli (rd : Reg) (rs1 : Reg) (imm : BitVec 12) : Statement (.srli rd rs1 imm) :=
  fun _ => ⟨(fields_encodeI ..).1, rfl⟩

theorem srai (rd : Reg) (rs1 : Reg) (imm : BitVec 12) : Statement (.srai rd rs1 imm) :=
  fun _ => ⟨(fields_encodeI ..).1, rfl⟩

theorem lb (rd : Reg) (rs1 : Reg) (imm : BitVec 12) : Statement (.lb rd rs1 imm) :=
  fun _ => ⟨(fields_encodeI ..).1, rfl⟩

theorem lh (rd : Reg) (rs1 : Reg) (imm : BitVec 12) : Statement (.lh rd rs1 imm) :=
  fun _ => ⟨(fields_encodeI ..).1, rfl⟩

theorem lw (rd : Reg) (rs1 : Reg) (imm : BitVec 12) : Statement (.lw rd rs1 imm) :=
  fun _ => ⟨(fields_encodeI ..).1, rfl⟩

theorem lbu (rd : Reg) (rs1 : Reg) (imm : BitVec 12) : Statement (.lbu rd rs1 imm) :=
  fun _ => ⟨(fields_encodeI ..).1, rfl⟩

theorem lhu (rd : Reg) (rs1 : Reg) (imm : BitVec 12) : Statement (.lhu rd rs1 imm) :=
  fun _ => ⟨(fields_encodeI ..).1, rfl⟩

theorem jalr (rd : Reg) (rs1 : Reg) (imm : BitVec 12) : Statement (.jalr rd rs1 imm) :=
  fun _ => ⟨(fields_encodeI ..).1, rfl⟩

theorem sb (rs1 : Reg) (rs2 : Reg) (imm : BitVec 12) : Statement (.sb rs1 rs2 imm) :=
  fun _ => ⟨(fields_encodeS ..).1, rfl⟩

theorem sh (rs1 : Reg) (rs2 : Reg) (imm : BitVec 12) : Statement (.sh rs1 rs2 imm) :=
  fun _ => ⟨(fields_encodeS ..).1, rfl⟩

theorem sw (rs1 : Reg) (rs2 : Reg) (imm : BitVec 12) : Statement (.sw rs1 rs2 imm) :=
  fun _ => ⟨(fields_encodeS ..).1, rfl⟩

theorem beq (rs1 : Reg) (rs2 : Reg) (imm : BitVec 13) : Statement (.beq rs1 rs2 imm) :=
  fun h => ⟨(fields_encodeB _ _ _ _ _ h).1, rfl⟩

theorem bne (rs1 : Reg) (rs2 : Reg) (imm : BitVec 13) : Statement (.bne rs1 rs2 imm) :=
  fun h => ⟨(fields_encodeB _ _ _ _ _ h).1, rfl⟩

theorem blt (rs1 : Reg) (rs2 : Reg) (imm : BitVec 13) : Statement (.blt rs1 rs2 imm) :=
  fun h => ⟨(fields_encodeB _ _ _ _ _ h).1, rfl⟩

theorem bge (rs1 : Reg) (rs2 : Reg) (imm : BitVec 13) : Statement (.bge rs1 rs2 imm) :=
  fun h => ⟨(fields_encodeB _ _ _ _ _ h).1, rfl⟩

theorem bltu (rs1 : Reg) (rs2 : Reg) (imm : BitVec 13) : Statement (.bltu rs1 rs2 imm) :=
  fun h => ⟨(fields_encodeB _ _ _ _ _ h).1, rfl⟩

theorem bgeu (rs1 : Reg) (rs2 : Reg) (imm : BitVec 13) : Statement (.bgeu rs1 rs2 imm) :=
  fun h => ⟨(fields_encodeB _ _ _ _ _ h).1, rfl⟩

theorem lui (rd : Reg) (imm : BitVec 20) : Statement (.lui rd imm) :=
  fun _ => ⟨(fields_encodeU ..).1, rfl⟩

theorem auipc (rd : Reg) (imm : BitVec 20) : Statement (.auipc rd imm) :=
  fun _ => ⟨(fields_encodeU ..).1, rfl⟩

theorem jal (rd : Reg) (imm : BitVec 21) : Statement (.jal rd imm) :=
  fun h => ⟨(fields_encodeJ _ _ _ h).1, rfl⟩

theorem unknownR (rd : Reg) (funct3 : Funct3) (rs1 : Reg) (rs2 : Reg) (funct7 : Funct7) : Statement (.unknownR rd funct3 rs1 rs2 funct7) :=
  fun _ => ⟨(fields_encodeR ..).1, rfl⟩

theorem unknownIOpImm (rd : Reg) (funct3 : Funct3) (rs1 : Reg) (imm : BitVec 12) : Statement (.unknownIOpImm rd funct3 rs1 imm) :=
  fun _ => ⟨(fields_encodeI ..).1, rfl⟩

theorem unknownILoad (rd : Reg) (funct3 : Funct3) (rs1 : Reg) (imm : BitVec 12) : Statement (.unknownILoad rd funct3 rs1 imm) :=
  fun _ => ⟨(fields_encodeI ..).1, rfl⟩

theorem unknownIJalr (rd : Reg) (funct3 : Funct3) (rs1 : Reg) (imm : BitVec 12) : Statement (.unknownIJalr rd funct3 rs1 imm) :=
  fun _ => ⟨(fields_encodeI ..).1, rfl⟩

theorem unknownS (funct3 : Funct3) (rs1 : Reg) (rs2 : Reg) (imm : BitVec 12) : Statement (.unknownS funct3 rs1 rs2 imm) :=
  fun _ => ⟨(fields_encodeS ..).1, rfl⟩

theorem unknownB (funct3 : Funct3) (rs1 : Reg) (rs2 : Reg) (imm : BitVec 13) : Statement (.unknownB funct3 rs1 rs2 imm) :=
  fun h => ⟨(fields_encodeB _ _ _ _ _ (Bool.and_eq_true_iff.mp h).2).1, rfl⟩

end Sys2Proof.Laws.LowOpcodeBits
end

