-- ==== Sys2Proof/Tests/Slice0.lean ====
section
/-! SUPPORT. Tests of the model on fixed values, each expected result taken from spec/ (95_test_vectors.md unless a comment
says otherwise), and for every obligation with hypotheses a witness that meets them. -/

namespace Sys2Proof.Tests

open Sys2Proof Sys2Proof.Machine

/-! ### Well-formedness: an ill-formed term for each check, refused (R55, R57, R61, R63) -/

theorem test_wf_refuses_slli_selector : (Instr.slli 5#5 6#5 1027#12).wf = false := by decide
theorem test_wf_refuses_srli_selector : (Instr.srli 5#5 6#5 1028#12).wf = false := by decide
theorem test_wf_refuses_srai_selector : (Instr.srai 5#5 6#5 4#12).wf = false := by decide
theorem test_wf_refuses_odd_branch :
    (Instr.beq 1#5 2#5 9#13).wf = false ∧ (Instr.bne 1#5 2#5 9#13).wf = false ∧ (Instr.blt 1#5 2#5 9#13).wf = false ∧
    (Instr.bge 1#5 2#5 9#13).wf = false ∧ (Instr.bltu 1#5 2#5 9#13).wf = false ∧
    (Instr.bgeu 1#5 2#5 9#13).wf = false := by decide
theorem test_wf_refuses_odd_jal : (Instr.jal 1#5 5#21).wf = false := by decide
theorem test_wf_refuses_known_r : (Instr.unknownR 3#5 5#3 1#5 2#5 0x20#7).wf = false := by decide
theorem test_wf_refuses_known_opimm : (Instr.unknownIOpImm 5#5 1#3 6#5 31#12).wf = false := by decide
theorem test_wf_refuses_known_load : (Instr.unknownILoad 5#5 4#3 6#5 0#12).wf = false := by decide
theorem test_wf_refuses_known_jalr : (Instr.unknownIJalr 5#5 0#3 6#5 0#12).wf = false := by decide
theorem test_wf_refuses_known_s : (Instr.unknownS 2#3 6#5 5#5 0#12).wf = false := by decide
theorem test_wf_refuses_known_b : (Instr.unknownB 0#3 1#5 2#5 8#13).wf = false := by decide
theorem test_wf_refuses_odd_unknown_b : (Instr.unknownB 2#3 1#5 2#5 9#13).wf = false := by decide

/-! ### Decoding: a word of each constructor, cut into its format's fields (L2.1 to L2.5) -/

theorem test_decode_add :
    decode 0b0000000_00010_00001_000_00011_0110011#32 = .instr (.add 3#5 1#5 2#5) := by decide
theorem test_decode_sub :
    decode 0b0100000_00010_00001_000_00011_0110011#32 = .instr (.sub 3#5 1#5 2#5) := by decide
theorem test_decode_sll :
    decode 0b0000000_00010_00001_001_00011_0110011#32 = .instr (.sll 3#5 1#5 2#5) := by decide
theorem test_decode_slt :
    decode 0b0000000_00010_00001_010_00011_0110011#32 = .instr (.slt 3#5 1#5 2#5) := by decide
theorem test_decode_sltu :
    decode 0b0000000_00010_00001_011_00011_0110011#32 = .instr (.sltu 3#5 1#5 2#5) := by decide
theorem test_decode_xor :
    decode 0b0000000_00010_00001_100_00011_0110011#32 = .instr (.xor 3#5 1#5 2#5) := by decide
theorem test_decode_srl :
    decode 0b0000000_00010_00001_101_00011_0110011#32 = .instr (.srl 3#5 1#5 2#5) := by decide
theorem test_decode_sra :
    decode 0b0100000_00010_00001_101_00011_0110011#32 = .instr (.sra 3#5 1#5 2#5) := by decide
theorem test_decode_or :
    decode 0b0000000_00010_00001_110_00011_0110011#32 = .instr (.or 3#5 1#5 2#5) := by decide
theorem test_decode_and :
    decode 0b0000000_00010_00001_111_00011_0110011#32 = .instr (.and 3#5 1#5 2#5) := by decide
theorem test_decode_unknownR :
    decode 0b0000001_00010_00001_000_00011_0110011#32 = .instr (.unknownR 3#5 0#3 1#5 2#5 1#7) := by decide
theorem test_decode_unknownR_corner1 :
    decode 0b0100000_00010_00001_001_00011_0110011#32 = .instr (.unknownR 3#5 1#3 1#5 2#5 32#7) := by decide
theorem test_decode_addi :
    decode 0b111111111000_00010_000_00010_0010011#32 = .instr (.addi 2#5 2#5 4088#12) := by decide
theorem test_decode_slti :
    decode 0b111111111111_00110_010_00101_0010011#32 = .instr (.slti 5#5 6#5 4095#12) := by decide
theorem test_decode_sltiu :
    decode 0b000000000001_00110_011_00101_0010011#32 = .instr (.sltiu 5#5 6#5 1#12) := by decide
theorem test_decode_xori :
    decode 0b111111111111_00110_100_00101_0010011#32 = .instr (.xori 5#5 6#5 4095#12) := by decide
theorem test_decode_ori :
    decode 0b000011110000_00110_110_00101_0010011#32 = .instr (.ori 5#5 6#5 240#12) := by decide
theorem test_decode_andi :
    decode 0b000011111111_00110_111_00101_0010011#32 = .instr (.andi 5#5 6#5 255#12) := by decide
theorem test_decode_slli :
    decode 0b000000000011_00110_001_00101_0010011#32 = .instr (.slli 5#5 6#5 3#12) := by decide
theorem test_decode_srli :
    decode 0b000000011111_00110_101_00101_0010011#32 = .instr (.srli 5#5 6#5 31#12) := by decide
theorem test_decode_srai :
    decode 0b010000000100_00110_101_00101_0010011#32 = .instr (.srai 5#5 6#5 1028#12) := by decide
theorem test_decode_unknownIOpImm :
    decode 0b010000000011_00110_001_00101_0010011#32 = .instr (.unknownIOpImm 5#5 1#3 6#5 1027#12) := by decide
theorem test_decode_unknownIOpImm_corner1 :
    decode 0b000000100001_00110_101_00101_0010011#32 = .instr (.unknownIOpImm 5#5 5#3 6#5 33#12) := by decide
theorem test_decode_lb :
    decode 0b000000000000_00010_000_00100_0000011#32 = .instr (.lb 4#5 2#5 0#12) := by decide
theorem test_decode_lh :
    decode 0b000000000010_00010_001_00100_0000011#32 = .instr (.lh 4#5 2#5 2#12) := by decide
theorem test_decode_lw :
    decode 0b000000000000_00010_010_00001_0000011#32 = .instr (.lw 1#5 2#5 0#12) := by decide
theorem test_decode_lbu :
    decode 0b111111111111_00010_100_00100_0000011#32 = .instr (.lbu 4#5 2#5 4095#12) := by decide
theorem test_decode_lhu :
    decode 0b000000000110_00010_101_00100_0000011#32 = .instr (.lhu 4#5 2#5 6#12) := by decide
theorem test_decode_unknownILoad :
    decode 0b000000000000_00010_011_00100_0000011#32 = .instr (.unknownILoad 4#5 3#3 2#5 0#12) := by decide
theorem test_decode_jalr :
    decode 0b000000010000_00101_000_00001_1100111#32 = .instr (.jalr 1#5 5#5 16#12) := by decide
theorem test_decode_unknownIJalr :
    decode 0b000000000000_00001_001_00000_1100111#32 = .instr (.unknownIJalr 0#5 1#3 1#5 0#12) := by decide
theorem test_decode_sb :
    decode 0b0000000_00101_00010_000_00000_0100011#32 = .instr (.sb 2#5 5#5 0#12) := by decide
theorem test_decode_sh :
    decode 0b0000000_00101_00010_001_00010_0100011#32 = .instr (.sh 2#5 5#5 2#12) := by decide
theorem test_decode_sw :
    decode 0b1111111_00101_00010_010_11100_0100011#32 = .instr (.sw 2#5 5#5 4092#12) := by decide
theorem test_decode_sw_corner1 :
    decode 0b0111111_00000_00000_010_11111_0100011#32 = .instr (.sw 0#5 0#5 2047#12) := by decide
theorem test_decode_unknownS :
    decode 0b0000000_00101_00010_011_00000_0100011#32 = .instr (.unknownS 3#3 2#5 5#5 0#12) := by decide
theorem test_decode_beq :
    decode 0b0_000000_00010_00001_000_0100_0_1100011#32 = .instr (.beq 1#5 2#5 8#13) := by decide
theorem test_decode_bne :
    decode 0b1_111111_00010_00001_001_1110_1_1100011#32 = .instr (.bne 1#5 2#5 8188#13) := by decide
theorem test_decode_blt :
    decode 0b0_000000_00100_00011_100_1000_0_1100011#32 = .instr (.blt 3#5 4#5 16#13) := by decide
theorem test_decode_bge :
    decode 0b1_111111_00100_00011_101_1000_1_1100011#32 = .instr (.bge 3#5 4#5 8176#13) := by decide
theorem test_decode_bltu :
    decode 0b0_000000_00100_00011_110_0000_1_1100011#32 = .instr (.bltu 3#5 4#5 2048#13) := by decide
theorem test_decode_bgeu :
    decode 0b1_000000_00100_00011_111_0000_0_1100011#32 = .instr (.bgeu 3#5 4#5 4096#13) := by decide
theorem test_decode_beq_corner1 :
    decode 0b0_111111_00000_00000_000_1111_1_1100011#32 = .instr (.beq 0#5 0#5 4094#13) := by decide
theorem test_decode_unknownB :
    decode 0b0_000000_00010_00001_010_0100_0_1100011#32 = .instr (.unknownB 2#3 1#5 2#5 8#13) := by decide
theorem test_decode_lui :
    decode 0b00010010001101000101_00101_0110111#32 = .instr (.lui 5#5 74565#20) := by decide
theorem test_decode_auipc :
    decode 0b11111111111111111111_00110_0010111#32 = .instr (.auipc 6#5 1048575#20) := by decide
theorem test_decode_jal :
    decode 0b0_0000000010_0_00000000_00001_1101111#32 = .instr (.jal 1#5 4#21) := by decide
theorem test_decode_jal_corner1 :
    decode 0b0_1111111111_0_00000000_00001_1101111#32 = .instr (.jal 1#5 2046#21) := by decide
theorem test_decode_jal_corner2 :
    decode 0b0_0000000000_1_00000000_00001_1101111#32 = .instr (.jal 1#5 2048#21) := by decide

/-- Decode failures, with the raw opcode (L2.6). -/
theorem test_decode_failures :
    decode 0x00100073#32 = .failure 0x73#7 ∧ decode 0x0FF0000F#32 = .failure 0x0F#7 ∧
    decode 0x0020A1AF#32 = .failure 0x2F#7 ∧ decode 0x0000A007#32 = .failure 0x07#7 ∧
    decode 0x00000000#32 = .failure 0x00#7 ∧ decode 0xFFFFFFFF#32 = .failure 0x7F#7 ∧
    decode 0x00000001#32 = .failure 0x01#7 := by decide

/-- A row of the table shorter or longer than a word (log entry 11). -/
theorem test_table_word_widths :
    decodeTableWord 32 0x002081B3 = some (.add 3#5 1#5 2#5) ∧ decodeTableWord 8 0x33 = some (.add 0#5 0#5 0#5) ∧
    decodeTableWord 40 0x002081B3 = none := by decide

/-! ### Small states -/

/-- A real entry in flight in a stage. -/
def flying (i : Instr) (k : Nat) (pc : PC) (st : Stage) : Entry :=
  { body := .real i, id := k, programCounter := pc, originalProgramCounter := pc, currentStage := st
    hasStarted := true, hasCompleted := false, inFlight := true }

/-- A real entry that has not started. -/
def waiting (i : Instr) (k : Nat) (pc : PC) : Entry :=
  { body := .real i, id := k, programCounter := pc, originalProgramCounter := pc, currentStage := .notStarted
    hasStarted := false, hasCompleted := false, inFlight := false }

/-- The three switches on or off: forwarding, data hazards, control hazards. -/
def switches (f d c : Bool) : Cfg := { forwarding := f, dataHazardEnabled := d, controlHazardEnabled := c }

/-- The candidate `i` one slot behind `addi x1, x0, 1` in ID, under (F, T, F): the first check of L2.7. -/
def behindAddi (i : Instr) : State :=
  { seq := [flying (.addi 1#5 0#5 1#12) 0 0#32 .ID, waiting i 1 4#32], cycle := 2, cfg := switches false true false
    params := Params.specDefault }

/-- The state of an outcome. -/
def stateOf? : Host.Outcome State Fault Refusal → Option State
  | .next s => some s
  | .fault _ => none
  | .refused _ => none

/-- The reason of a refusal. -/
def refusalOf? : Host.Outcome State Fault Refusal → Option Refusal
  | .next _ => none
  | .fault _ => none
  | .refused r => some r

def stagesAfter (o : Host.Outcome State Fault Refusal) : Option (List Stage) :=
  (stateOf? o).map fun s => s.seq.map (·.currentStage)

/-! ### Turns: each instruction behind a producer of x1 in ID. A reader of x1 gets a bubble, a branch is exempt, and what
reads nothing is admitted (L2.7, L2.8; the UNKNOWN kinds by R64) -/

theorem test_turn_add :
    stagesAfter (exec (.add 2#5 3#5 1#5) (behindAddi (.add 2#5 3#5 1#5))) = some [.ID, .IF, .notStarted] := by decide
theorem test_turn_sub :
    stagesAfter (exec (.sub 2#5 3#5 1#5) (behindAddi (.sub 2#5 3#5 1#5))) = some [.ID, .IF, .notStarted] := by decide
theorem test_turn_sll :
    stagesAfter (exec (.sll 2#5 3#5 1#5) (behindAddi (.sll 2#5 3#5 1#5))) = some [.ID, .IF, .notStarted] := by decide
theorem test_turn_slt :
    stagesAfter (exec (.slt 2#5 3#5 1#5) (behindAddi (.slt 2#5 3#5 1#5))) = some [.ID, .IF, .notStarted] := by decide
theorem test_turn_sltu :
    stagesAfter (exec (.sltu 2#5 3#5 1#5) (behindAddi (.sltu 2#5 3#5 1#5))) = some [.ID, .IF, .notStarted] := by decide
theorem test_turn_xor :
    stagesAfter (exec (.xor 2#5 3#5 1#5) (behindAddi (.xor 2#5 3#5 1#5))) = some [.ID, .IF, .notStarted] := by decide
theorem test_turn_srl :
    stagesAfter (exec (.srl 2#5 3#5 1#5) (behindAddi (.srl 2#5 3#5 1#5))) = some [.ID, .IF, .notStarted] := by decide
theorem test_turn_sra :
    stagesAfter (exec (.sra 2#5 3#5 1#5) (behindAddi (.sra 2#5 3#5 1#5))) = some [.ID, .IF, .notStarted] := by decide
theorem test_turn_or :
    stagesAfter (exec (.or 2#5 3#5 1#5) (behindAddi (.or 2#5 3#5 1#5))) = some [.ID, .IF, .notStarted] := by decide
theorem test_turn_and :
    stagesAfter (exec (.and 2#5 3#5 1#5) (behindAddi (.and 2#5 3#5 1#5))) = some [.ID, .IF, .notStarted] := by decide
theorem test_turn_addi :
    stagesAfter (exec (.addi 2#5 1#5 5#12) (behindAddi (.addi 2#5 1#5 5#12))) = some [.ID, .IF, .notStarted] := by decide
theorem test_turn_slti :
    stagesAfter (exec (.slti 2#5 1#5 5#12) (behindAddi (.slti 2#5 1#5 5#12))) = some [.ID, .IF, .notStarted] := by decide
theorem test_turn_sltiu :
    stagesAfter (exec (.sltiu 2#5 1#5 5#12) (behindAddi (.sltiu 2#5 1#5 5#12))) = some [.ID, .IF, .notStarted] := by decide
theorem test_turn_xori :
    stagesAfter (exec (.xori 2#5 1#5 5#12) (behindAddi (.xori 2#5 1#5 5#12))) = some [.ID, .IF, .notStarted] := by decide
theorem test_turn_ori :
    stagesAfter (exec (.ori 2#5 1#5 5#12) (behindAddi (.ori 2#5 1#5 5#12))) = some [.ID, .IF, .notStarted] := by decide
theorem test_turn_andi :
    stagesAfter (exec (.andi 2#5 1#5 5#12) (behindAddi (.andi 2#5 1#5 5#12))) = some [.ID, .IF, .notStarted] := by decide
theorem test_turn_slli :
    stagesAfter (exec (.slli 2#5 1#5 5#12) (behindAddi (.slli 2#5 1#5 5#12))) = some [.ID, .IF, .notStarted] := by decide
theorem test_turn_srli :
    stagesAfter (exec (.srli 2#5 1#5 5#12) (behindAddi (.srli 2#5 1#5 5#12))) = some [.ID, .IF, .notStarted] := by decide
theorem test_turn_srai :
    stagesAfter (exec (.srai 2#5 1#5 1028#12) (behindAddi (.srai 2#5 1#5 1028#12))) = some [.ID, .IF, .notStarted] := by decide
theorem test_turn_lb :
    stagesAfter (exec (.lb 2#5 1#5 4#12) (behindAddi (.lb 2#5 1#5 4#12))) = some [.ID, .IF, .notStarted] := by decide
theorem test_turn_lh :
    stagesAfter (exec (.lh 2#5 1#5 4#12) (behindAddi (.lh 2#5 1#5 4#12))) = some [.ID, .IF, .notStarted] := by decide
theorem test_turn_lw :
    stagesAfter (exec (.lw 2#5 1#5 4#12) (behindAddi (.lw 2#5 1#5 4#12))) = some [.ID, .IF, .notStarted] := by decide
theorem test_turn_lbu :
    stagesAfter (exec (.lbu 2#5 1#5 4#12) (behindAddi (.lbu 2#5 1#5 4#12))) = some [.ID, .IF, .notStarted] := by decide
theorem test_turn_lhu :
    stagesAfter (exec (.lhu 2#5 1#5 4#12) (behindAddi (.lhu 2#5 1#5 4#12))) = some [.ID, .IF, .notStarted] := by decide
theorem test_turn_jalr :
    stagesAfter (exec (.jalr 2#5 1#5 4#12) (behindAddi (.jalr 2#5 1#5 4#12))) = some [.ID, .IF, .notStarted] := by decide
theorem test_turn_sb :
    stagesAfter (exec (.sb 2#5 1#5 4#12) (behindAddi (.sb 2#5 1#5 4#12))) = some [.ID, .IF, .notStarted] := by decide
theorem test_turn_sh :
    stagesAfter (exec (.sh 2#5 1#5 4#12) (behindAddi (.sh 2#5 1#5 4#12))) = some [.ID, .IF, .notStarted] := by decide
theorem test_turn_sw :
    stagesAfter (exec (.sw 2#5 1#5 4#12) (behindAddi (.sw 2#5 1#5 4#12))) = some [.ID, .IF, .notStarted] := by decide
theorem test_turn_beq :
    stagesAfter (exec (.beq 1#5 1#5 8#13) (behindAddi (.beq 1#5 1#5 8#13))) = some [.ID, .IF] := by decide
theorem test_turn_bne :
    stagesAfter (exec (.bne 1#5 1#5 8#13) (behindAddi (.bne 1#5 1#5 8#13))) = some [.ID, .IF] := by decide
theorem test_turn_blt :
    stagesAfter (exec (.blt 1#5 1#5 8#13) (behindAddi (.blt 1#5 1#5 8#13))) = some [.ID, .IF] := by decide
theorem test_turn_bge :
    stagesAfter (exec (.bge 1#5 1#5 8#13) (behindAddi (.bge 1#5 1#5 8#13))) = some [.ID, .IF] := by decide
theorem test_turn_bltu :
    stagesAfter (exec (.bltu 1#5 1#5 8#13) (behindAddi (.bltu 1#5 1#5 8#13))) = some [.ID, .IF] := by decide
theorem test_turn_bgeu :
    stagesAfter (exec (.bgeu 1#5 1#5 8#13) (behindAddi (.bgeu 1#5 1#5 8#13))) = some [.ID, .IF] := by decide
theorem test_turn_lui :
    stagesAfter (exec (.lui 1#5 1#20) (behindAddi (.lui 1#5 1#20))) = some [.ID, .IF] := by decide
theorem test_turn_auipc :
    stagesAfter (exec (.auipc 1#5 1#20) (behindAddi (.auipc 1#5 1#20))) = some [.ID, .IF] := by decide
theorem test_turn_jal :
    stagesAfter (exec (.jal 1#5 8#21) (behindAddi (.jal 1#5 8#21))) = some [.ID, .IF] := by decide
theorem test_turn_unknownR :
    stagesAfter (exec (.unknownR 1#5 0#3 1#5 1#5 1#7) (behindAddi (.unknownR 1#5 0#3 1#5 1#5 1#7))) = some [.ID, .IF] := by decide
theorem test_turn_unknownIOpImm :
    stagesAfter (exec (.unknownIOpImm 1#5 1#3 1#5 1027#12) (behindAddi (.unknownIOpImm 1#5 1#3 1#5 1027#12))) = some [.ID, .IF] := by decide
theorem test_turn_unknownILoad :
    stagesAfter (exec (.unknownILoad 1#5 3#3 1#5 0#12) (behindAddi (.unknownILoad 1#5 3#3 1#5 0#12))) = some [.ID, .IF] := by decide
theorem test_turn_unknownIJalr :
    stagesAfter (exec (.unknownIJalr 1#5 1#3 1#5 0#12) (behindAddi (.unknownIJalr 1#5 1#3 1#5 0#12))) = some [.ID, .IF] := by decide
theorem test_turn_unknownS :
    stagesAfter (exec (.unknownS 3#3 1#5 1#5 0#12) (behindAddi (.unknownS 3#3 1#5 1#5 0#12))) = some [.ID, .IF] := by decide
theorem test_turn_unknownB :
    stagesAfter (exec (.unknownB 2#3 1#5 1#5 8#13) (behindAddi (.unknownB 2#3 1#5 1#5 8#13))) = some [.ID, .IF] := by decide

/-- The bubble stands where the candidate stood, and the candidate four higher (R127, R140). -/
theorem test_bubble_program_counters :
    (stateOf? (exec (.add 2#5 1#5 0#5) (behindAddi (.add 2#5 1#5 0#5)))).map
      (fun s => s.seq.map fun e => (e.id, e.programCounter, e.originalProgramCounter)) =
    some [(0, 0#32, 0#32), (-1, 4#32, 4#32), (1, 8#32, 4#32)] := by decide

/-! ### The comparators (L2.7) -/

/-- RAW of `c` against `p` in a stage, under the two policies. -/
def rawBoth (x0 exempt fwd : Bool) (p : Body) (st : Stage) (c : Instr) : Bool × Bool :=
  let e : Entry := { body := p, id := 0, programCounter := 0#32, originalProgramCounter := 0#32, currentStage := st
                     hasStarted := true, hasCompleted := false, inFlight := true }
  let P (cmp : CmpPolicy) : Params := { cmp := cmp, branchRawExempt := exempt, x0Exempt := x0, basePC := 0#32 }
  (raw (P .strict) fwd [e] (metaOf c) .notStarted, raw (P .nonStrict) fwd [e] (metaOf c) .notStarted)

theorem test_raw_without_forwarding :
    rawBoth false true false (.real (.addi 1#5 0#5 1#12)) .ID (.add 2#5 1#5 0#5) = (true, true) ∧
    rawBoth false true false (.real (.addi 1#5 0#5 1#12)) .EX (.add 2#5 1#5 0#5) = (false, true) ∧
    rawBoth false true false (.real (.addi 1#5 0#5 1#12)) .MEM (.add 2#5 1#5 0#5) = (false, false) := by decide
theorem test_raw_with_forwarding :
    rawBoth false true true (.real (.addi 1#5 0#5 1#12)) .ID (.add 2#5 1#5 0#5) = (false, false) ∧
    rawBoth false true true (.real (.lw 1#5 2#5 0#12)) .ID (.add 2#5 1#5 0#5) = (false, true) ∧
    rawBoth false true true (.real (.lw 1#5 2#5 0#12)) .EX (.add 2#5 1#5 0#5) = (false, false) ∧
    rawBoth false true true (.real (.lw 1#5 2#5 0#12)) .MEM (.add 2#5 1#5 0#5) = (false, false) := by decide
theorem test_raw_of_branch_and_x0 :
    rawBoth false true false (.real (.addi 1#5 0#5 1#12)) .ID (.beq 1#5 0#5 8#13) = (false, false) ∧
    rawBoth false false false (.real (.addi 1#5 0#5 1#12)) .ID (.beq 1#5 0#5 8#13) = (true, true) ∧
    rawBoth false true false (.real (.addi 0#5 0#5 0#12)) .ID (.addi 0#5 0#5 0#12) = (true, true) ∧
    rawBoth true true false (.real (.addi 0#5 0#5 0#12)) .ID (.addi 0#5 0#5 0#12) = (false, false) := by decide
theorem test_raw_of_unknown_and_bubble :
    rawBoth false true false (.real (.unknownR 1#5 0#3 1#5 2#5 1#7)) .ID (.add 2#5 1#5 0#5) = (false, false) ∧
    rawBoth false true false .bubble .ID (.add 2#5 1#5 0#5) = (false, false) := by decide
theorem test_war_goes :
    war Params.specDefault false [flying (.add 2#5 1#5 0#5) 0 0#32 .ID] (metaOf (.addi 1#5 3#5 0#12)) .notStarted =
      false := by decide
/-- The WAR formula fires off the reachable states: a candidate already in MEM against a reader in IF, cons = 1,
prod = 5 - 4 = 1 and 1 is not later than 1 (worked from R132). -/
theorem test_war_fires_when_not_later :
    war Params.specDefault false [flying (.add 2#5 1#5 0#5) 0 0#32 .IF] (metaOf (.addi 1#5 3#5 0#12)) .MEM = true ∧
    war { Params.specDefault with cmp := .nonStrict } false [flying (.add 2#5 1#5 0#5) 0 0#32 .IF]
      (metaOf (.addi 1#5 3#5 0#12)) .MEM = false := by decide
theorem test_ctrl :
    ctrl [flying (.beq 0#5 0#5 8#13) 0 0#32 .ID] (metaOf (.beq 1#5 0#5 8#13)) = true ∧
    ctrl [flying (.jal 1#5 8#21) 0 0#32 .EX] (metaOf (.beq 1#5 0#5 8#13)) = true ∧
    ctrl [flying (.beq 0#5 0#5 8#13) 0 0#32 .MEM] (metaOf (.jalr 0#5 1#5 0#12)) = false ∧
    ctrl [flying (.beq 0#5 0#5 8#13) 0 0#32 .ID] (metaOf (.add 2#5 0#5 0#5)) = false := by decide

/-! ### Witness states -/

/-- The default parameters with another base. -/
def atBase (base : PC) : Params := { Params.specDefault with basePC := base }

/-- Cycle 1 of a run: `add x3, x1, x2` in IF, then `sub x5, x3, x4` and `lw x6, 0(x5)`; (F, T, T). After the advance the
candidate is the blocked `sub`. -/
def mid : State :=
  { seq := [flying (.add 3#5 1#5 2#5) 0 0#32 .IF, waiting (.sub 5#5 3#5 4#5) 1 4#32, waiting (.lw 6#5 5#5 0#12) 2 8#32]
    cycle := 1, cfg := switches false true true, params := Params.specDefault }

/-- As `mid`, with the hazard switches off: the `sub` goes. -/
def midFree : State := { mid with cfg := switches false false false }

/-- Cycle 2 of the run of `mid`: a bubble in IF behind the `add`. -/
def midNext : State :=
  { seq := [flying (.add 3#5 1#5 2#5) 0 0#32 .ID, newBubble 4#32,
            { waiting (.sub 5#5 3#5 4#5) 1 4#32 with programCounter := 8#32 },
            { waiting (.lw 6#5 5#5 0#12) 2 8#32 with programCounter := 12#32 }]
    cycle := 2, cfg := switches false true true, params := Params.specDefault }

/-- Cycle 4 of a one-instruction run: no candidate is left. -/
def last : State :=
  { seq := [flying (.lui 5#5 1#20) 0 0#32 .MEM], cycle := 4, cfg := switches false true true
    params := Params.specDefault }

/-- The end of that run. -/
def ended : State :=
  { seq := [{ flying (.lui 5#5 1#20) 0 0#32 .WB with hasCompleted := true, inFlight := false }]
    cycle := 5, cfg := switches false true true, params := Params.specDefault }

/-- Two slots at the top of the offset space, the second blocked: no bubble fits. -/
def full : State :=
  { seq := [flying (.add 3#5 1#5 2#5) 0 4294967288#32 .IF, waiting (.sub 5#5 3#5 4#5) 1 4294967292#32]
    cycle := 1, cfg := switches false true true, params := { Params.specDefault with basePC := 4294967288#32 } }

/-- The same one slot lower: the bubble fits, and the last slot is the last there is. -/
def nearlyFull : State :=
  { seq := [flying (.add 3#5 1#5 2#5) 0 4294967284#32 .IF, waiting (.sub 5#5 3#5 4#5) 1 4294967288#32]
    cycle := 1, cfg := switches false true true, params := { Params.specDefault with basePC := 4294967284#32 } }

theorem mid_inv : mid.Inv where
  onTime := by
    intro i e h
    rcases i with _ | _ | _ | i <;> simp [mid] at h <;> subst h <;>
      exact ⟨by decide, by decide, by decide, by decide⟩
  numbered := by
    intro i e h
    rcases i with _ | _ | _ | i <;> simp [mid] at h <;> subst h <;> decide
  bubbles := by
    intro e h
    simp [mid] at h
    rcases h with rfl | rfl | rfl <;> simp [Entry.BubbleForm, flying, waiting]
  counter := by decide

theorem last_inv : last.Inv where
  onTime := by
    intro i e h
    rcases i with _ | i <;> simp [last] at h
    subst h
    exact ⟨by decide, by decide, by decide, by decide⟩
  numbered := by
    intro i e h
    rcases i with _ | i <;> simp [last] at h
    subst h
    decide
  bubbles := by simp [last, Entry.BubbleForm, flying]
  counter := by decide

theorem mid_steps : step mid = .next midNext := by rfl
theorem last_steps : step last = .next ended := by rfl
theorem ended_steps : step ended = .next ended := by rfl

/-- The cut of `mid` after the advance. -/
def midCut : Cut :=
  { before := [flying (.add 3#5 1#5 2#5) 0 0#32 .ID], cand := waiting (.sub 5#5 3#5 4#5) 1 4#32
    after := [waiting (.lw 6#5 5#5 0#12) 2 8#32] }

theorem mid_candidate : mid.advanced.candidate? = some midCut := by decide
theorem midFree_candidate : midFree.advanced.candidate? = some midCut := by decide
theorem last_candidate : last.advanced.candidate? = none := by decide

/-! ### Witnesses: the hypotheses of the obligations can be met -/

/-! The decoder. -/

theorem witness_DecodeOfEncodeIsTheInstruction :
    (Instr.add 31#5 31#5 31#5).wf = true ∧ (Instr.srai 5#5 6#5 1028#12).wf = true ∧ (Instr.bgeu 3#5 4#5 8190#13).wf = true ∧
    (Instr.jal 0#5 2097150#21).wf = true ∧ (Instr.unknownB 3#3 1#5 2#5 8190#13).wf = true := by decide
theorem witness_EncodeOfDecodeIsTheWord : decode 0x8041F063#32 = .instr (.bgeu 3#5 4#5 4096#13) := by decide
theorem witness_DecodedFieldsAreTheFormatsBits :
    decode 0x01FF8FB3#32 = .instr (.add 31#5 31#5 31#5) ∧ decode 0xFFF32293#32 = .instr (.slti 5#5 6#5 4095#12) ∧
    decode 0x7E002FA3#32 = .instr (.sw 0#5 0#5 2047#12) ∧ decode 0x7E000FE3#32 = .instr (.beq 0#5 0#5 4094#13) ∧
    decode 0xFFFFF317#32 = .instr (.auipc 6#5 1048575#20) ∧ decode 0x8000006F#32 = .instr (.jal 0#5 1048576#21) := by decide
theorem witness_KindIsResolvedFromTheKeys : decode 0x40331293#32 = .instr (.unknownIOpImm 5#5 1#3 6#5 1027#12) := by decide
theorem witness_RegisterKindWordsAndMetadata :
    (0x4020D1B3#32).extractLsb' 0 7 = 0x33#7 ∧ (0x4020D1B3#32).extractLsb' 12 3 = 5#3 ∧
    (0x4020D1B3#32).extractLsb' 25 7 = 0x20#7 := by decide
theorem witness_ImmediateKindWordsAndMetadata :
    (0x40435293#32).extractLsb' 0 7 = 0x13#7 ∧ (0x40435293#32).extractLsb' 12 3 = 5#3 ∧
    (0x40435293#32).extractLsb' 25 7 = 0x20#7 ∧ (0xFFF34293#32).extractLsb' 0 7 = 0x13#7 ∧
    (0xFFF34293#32).extractLsb' 12 3 = 4#3 := by decide
theorem witness_LoadAndJalrWordsAndMetadata :
    (0xFFF14203#32).extractLsb' 0 7 = 0x03#7 ∧ (0xFFF14203#32).extractLsb' 12 3 = 4#3 ∧
    (0x010280E7#32).extractLsb' 0 7 = 0x67#7 ∧ (0x010280E7#32).extractLsb' 12 3 = 0#3 := by decide
theorem witness_StoreAndBranchWordsAndMetadata :
    (0xFE512E23#32).extractLsb' 0 7 = 0x23#7 ∧ (0xFE512E23#32).extractLsb' 12 3 = 2#3 ∧
    (0x8041F063#32).extractLsb' 0 7 = 0x63#7 ∧ (0x8041F063#32).extractLsb' 12 3 = 7#3 := by decide
theorem witness_UpperAndJalWordsAndMetadata :
    (0x123452B7#32).extractLsb' 0 7 = 0x37#7 ∧ (0xFFFFF317#32).extractLsb' 0 7 = 0x17#7 ∧
    (0x8000006F#32).extractLsb' 0 7 = 0x6F#7 := by decide
/-- One word of each of the six UNKNOWN rows. -/
theorem witness_UnknownWordsDecodeWithEmptyMetadata :
    (fmtOf (opcodeOf 0xFE2081B3#32) = some .R ∧
      resolveKind (opcodeOf 0xFE2081B3#32) (fieldsOf .R 0xFE2081B3#32) = some .UNKNOWN_R) ∧
    (fmtOf (opcodeOf 0x40331293#32) = some .I ∧
      resolveKind (opcodeOf 0x40331293#32) (fieldsOf .I 0x40331293#32) = some .UNKNOWN_I) ∧
    (fmtOf (opcodeOf 0x00017203#32) = some .I ∧
      resolveKind (opcodeOf 0x00017203#32) (fieldsOf .I 0x00017203#32) = some .UNKNOWN_I) ∧
    (fmtOf (opcodeOf 0x00009067#32) = some .I ∧
      resolveKind (opcodeOf 0x00009067#32) (fieldsOf .I 0x00009067#32) = some .UNKNOWN_I) ∧
    (fmtOf (opcodeOf 0x00513023#32) = some .S ∧
      resolveKind (opcodeOf 0x00513023#32) (fieldsOf .S 0x00513023#32) = some .UNKNOWN_S) ∧
    fmtOf (opcodeOf 0x0020B463#32) = some .B ∧
      resolveKind (opcodeOf 0x0020B463#32) (fieldsOf .B 0x0020B463#32) = some .UNKNOWN_B := by decide

/-! The detector. -/

theorem witness_WarNeverFires : ∃ (s : State) (c : Cut), s.Inv ∧ s.advanced.candidate? = some c :=
  ⟨mid, midCut, mid_inv, mid_candidate⟩
theorem witness_InFlightOrderIsIrrelevant :
    [flying (.lw 1#5 2#5 0#12) 0 0#32 .EX, flying (.beq 1#5 2#5 8#13) 1 4#32 .ID].Perm
      [flying (.beq 1#5 2#5 8#13) 1 4#32 .ID, flying (.lw 1#5 2#5 0#12) 0 0#32 .EX] := by decide
theorem witness_UnknownAndBubbleTakeNoPart :
    (newBubble 0#32).metadata = bubbleMeta ∧ (Instr.unknownB 2#3 1#5 2#5 8#13).kind = .UNKNOWN_B ∧
    (flying (.unknownB 2#3 1#5 2#5 8#13) 0 0#32 .ID).metadata = metaOf (.unknownB 2#3 1#5 2#5 8#13) := by decide
/-- Both sides of the equivalence occur: the distance 1 is below 2, and with the switches off it is not below 1. -/
theorem witness_BlockedExactlyBelowTheRequiredDistance :
    mid.Inv ∧ mid.advanced.candidate? = some midCut ∧
    mid.advanced.blocked midCut.cand.metadata midCut.cand.currentStage = true ∧
    midFree.advanced.blocked midCut.cand.metadata midCut.cand.currentStage = false :=
  ⟨mid_inv, by decide, by decide, by decide⟩

/-! The turns: no candidate; a candidate that goes; one that is blocked with room; one that is blocked without. -/

theorem witness_turn_no_candidate : last.candidate? = none := by decide
/-- A candidate that goes, for each group of kinds. -/
theorem witness_turn_admitted :
    (behindAddi (.add 2#5 3#5 4#5)).blocked (metaOf (.add 2#5 3#5 4#5)) .notStarted = false ∧
    (behindAddi (.addi 2#5 3#5 4#12)).blocked (metaOf (.addi 2#5 3#5 4#12)) .notStarted = false ∧
    (behindAddi (.lw 2#5 3#5 4#12)).blocked (metaOf (.lw 2#5 3#5 4#12)) .notStarted = false ∧
    (behindAddi (.sw 2#5 3#5 4#12)).blocked (metaOf (.sw 2#5 3#5 4#12)) .notStarted = false ∧
    (behindAddi (.beq 1#5 3#5 4#13)).blocked (metaOf (.beq 1#5 3#5 4#13)) .notStarted = false ∧
    (behindAddi (.jal 2#5 8#21)).blocked (metaOf (.jal 2#5 8#21)) .notStarted = false ∧
    (behindAddi (.lui 2#5 8#20)).blocked (metaOf (.lui 2#5 8#20)) .notStarted = false := by decide
/-- A candidate that is blocked with room, for each group of kinds that can be blocked by `addi x1, x0, 1` in ID. -/
theorem witness_turn_stalled :
    (behindAddi (.add 2#5 1#5 0#5)).candidate?.isSome = true ∧
    (behindAddi (.add 2#5 1#5 0#5)).blocked (metaOf (.add 2#5 1#5 0#5)) .notStarted = true ∧
    (behindAddi (.addi 2#5 1#5 4#12)).blocked (metaOf (.addi 2#5 1#5 4#12)) .notStarted = true ∧
    (behindAddi (.lw 2#5 1#5 4#12)).blocked (metaOf (.lw 2#5 1#5 4#12)) .notStarted = true ∧
    (behindAddi (.sw 2#5 1#5 4#12)).blocked (metaOf (.sw 2#5 1#5 4#12)) .notStarted = true ∧
    (behindAddi (.jalr 2#5 1#5 4#12)).blocked (metaOf (.jalr 2#5 1#5 4#12)) .notStarted = true ∧
    (behindAddi (.add 2#5 1#5 0#5)).params.basePC.toNat + 4 * (behindAddi (.add 2#5 1#5 0#5)).seq.length < 2 ^ 32 := by
  decide
/-- Branches and JAL behind a branch in ID, with the control switch on. -/
theorem witness_turn_stalled_control :
    blockedBy Params.specDefault (switches false false true) [flying (.beq 0#5 0#5 8#13) 0 0#32 .ID]
      (metaOf (.bne 1#5 0#5 8#13)) .notStarted = true ∧
    blockedBy Params.specDefault (switches false false true) [flying (.beq 0#5 0#5 8#13) 0 0#32 .ID]
      (metaOf (.jal 1#5 8#21)) .notStarted = true := by decide
/-- Each outcome of exec, and each of step (R110). -/
theorem witness_NothingFaults :
    exec (.sub 5#5 3#5 4#5) full.advanced = .refused .pcOutOfRange ∧
    exec (.sub 5#5 3#5 4#5) mid.advanced = .next (mid.advanced.insertBubble midCut) ∧
    step { mid with params := atBase 2#32 } = .refused .misalignedBasePC ∧ step full = .refused .pcOutOfRange ∧
    step mid = .next midNext := ⟨rfl, rfl, rfl, rfl, rfl⟩
/-- The last slot stands at 2^32 - 4 and the candidate is blocked: no room; one slot lower there is. -/
theorem witness_turn_refused :
    full.advanced.candidate?.isSome = true ∧
    full.advanced.blocked (metaOf (.sub 5#5 3#5 4#5)) .notStarted = true ∧
    2 ^ 32 ≤ full.params.basePC.toNat + 4 * full.seq.length ∧
    nearlyFull.advanced.blocked (metaOf (.sub 5#5 3#5 4#5)) .notStarted = true ∧
    nearlyFull.params.basePC.toNat + 4 * nearlyFull.seq.length < 2 ^ 32 := by decide
theorem witness_UnknownKindsAreAlwaysAdmitted : mid.candidate?.isSome = true := by decide
theorem witness_AdmittedWhenNothingIsInFlight :
    (start [.add 3#5 1#5 2#5] (switches false true true) Params.specDefault).candidate?.isSome = true ∧
    (start [.add 3#5 1#5 2#5] (switches false true true) Params.specDefault).inflight = [] := by decide
theorem witness_OnlyTheMetadataMatters :
    metaOf (.addi 2#5 1#5 5#12) ≠ metaOf (.slli 2#5 1#5 3#12) ∧
    { metaOf (.addi 2#5 1#5 5#12) with name := "" } = { metaOf (.slli 2#5 1#5 3#12) with name := "" } := by decide
/-- The frame's three cases: no candidate, an admission, a bubble. -/
theorem witness_TurnLeavesTheRestUnchanged :
    exec (.lui 5#5 1#20) last = .next last ∧
    exec (.sub 5#5 3#5 4#5) midFree.advanced = .next (midFree.advanced.enter midCut) ∧
    exec (.sub 5#5 3#5 4#5) mid.advanced = .next (mid.advanced.insertBubble midCut) := ⟨rfl, rfl, rfl⟩

/-! The step. -/

theorem witness_StepRunsTheCandidate :
    mid.refusal? = none ∧ mid.done = false ∧ mid.advanced.candidate? = some midCut ∧
    midCut.cand.body = .real (.sub 5#5 3#5 4#5) ∧
    last.refusal? = none ∧ last.done = false ∧ last.advanced.candidate? = none := by decide
theorem witness_PlacedWordRunsNext :
    State.reset.params.basePC.toNat % 4 = 0 ∧ decodeTableWord 32 0x402081B3 = some (.sub 3#5 1#5 2#5) ∧
    (step (State.reset.withFetchWord 32 0x402081B3)) = .next
      { seq := [flying (.sub 3#5 1#5 2#5) 0 0#32 .IF], cycle := 1, cfg := switches false false false
        params := Params.specDefault } := ⟨by decide, by decide, rfl⟩
theorem witness_CandidateIsTheFirstWaitingEntry : mid.Inv ∧ mid.advanced.candidate? = some midCut :=
  ⟨mid_inv, mid_candidate⟩
/-- The four stages an entry can be advanced from, the last to completion; and a step that admits. -/
theorem witness_InFlightEntriesAdvanceOneStage :
    mid.LifeCycles ∧ mid.seq[0]? = some (flying (.add 3#5 1#5 2#5) 0 0#32 .IF) ∧ last.LifeCycles ∧
    last.seq[0]? = some (flying (.lui 5#5 1#20) 0 0#32 .MEM) ∧ step mid = .next midNext ∧
    mid.advanced.candidate? = some midCut := by
  refine ⟨?_, rfl, ?_, rfl, mid_steps, mid_candidate⟩ <;>
    simp [State.LifeCycles, Entry.LifeCycle, mid, last, flying, waiting]
theorem witness_StepCountsUntilTheEnd :
    step mid = .next midNext ∧ (∃ e ∈ mid.seq, e.hasCompleted = false) ∧ step ended = .next ended ∧
    ∀ e ∈ ended.seq, e.hasCompleted = true := ⟨mid_steps, by decide, ended_steps, by decide⟩
/-- Each case of a refusal, and the states just inside. -/
theorem witness_StepIsRefusedInExactlyTwoCases :
    refusalOf? (step { mid with params := { Params.specDefault with basePC := 2#32 } }) = some .misalignedBasePC ∧
    refusalOf? (step { mid with params := { Params.specDefault with basePC := 4294967292#32 } }) = some .pcOutOfRange ∧
    refusalOf? (step full) = some .pcOutOfRange ∧ refusalOf? (step nearlyFull) = none := by decide
theorem witness_StepDestroysNoEntry : step mid = .next midNext := mid_steps
theorem witness_OneAdmissionPerStep :
    mid.Inv ∧ mid.done = false ∧ step mid = .next midNext ∧ last.Inv ∧ last.done = false ∧ step last = .next ended :=
  ⟨mid_inv, by decide, mid_steps, last_inv, by decide, last_steps⟩

/-! The invariants. -/

theorem witness_StartStateIsTheResetTable : [Instr.lui 5#5 1#20, .jal 1#5 8#21][1]? = some (.jal 1#5 8#21) := by decide
theorem witness_StepKeepsTheEngineGood : mid.Inv ∧ step mid = .next midNext ∧ last.Inv ∧ step last = .next ended :=
  ⟨mid_inv, mid_steps, last_inv, last_steps⟩
theorem witness_StepKeepsTheLifeCycles : mid.LifeCycles ∧ step mid = .next midNext :=
  ⟨witness_InFlightEntriesAdvanceOneStage.1, mid_steps⟩
theorem witness_StepKeepsTheSlotNumbering :
    mid.PcNumbered ∧ step mid = .next midNext ∧ mid.params.basePC.toNat % 4 = 0 := ⟨mid_inv.numbered, mid_steps, by decide⟩
theorem witness_AtMostOneEntryPerStage : mid.Inv ∧ last.Inv := ⟨mid_inv, last_inv⟩
/-- The last offset of the last slot there is. -/
theorem witness_SlotCoversFourOffsets :
    1 < full.seq.length ∧ 3 < 4 ∧ full.params.basePC.toNat + 4 * 1 + 3 < 2 ^ 32 ∧
    full.slotAt? 4294967295#32 = some 1 := by decide

/-! The runs. -/

theorem witness_FailedWordsLeaveNoGap :
    decode 0x00000073#32 = .failure 0x73#7 ∧ decode 0x00000013#32 = .instr (.addi 0#5 0#5 0#12) ∧
    decodeAll [0x00000013#32, 0x00000073#32, 0x123452B7#32] = [.addi 0#5 0#5 0#12, .lui 5#5 74565#20] := by decide
/-- `addi x1, x0, 1` and a reader of x1: one bubble under (F, T, F) (L2.8). -/
def pair : List Instr := [.addi 1#5 0#5 1#12, .add 2#5 1#5 0#5]

/-- Both cases at their edge. One instruction in the last slot there is runs; the three slots of `pair` end at 2^32 - 4 from
one base and would pass it from the next. The empty program fits from any aligned base. -/
theorem witness_EveryRunEndsOnTime :
    (4294967292#32).toNat % 4 = 0 ∧ ScheduleFits (atBase 4294967292#32) (switches false true true) [.lui 5#5 1#20] ∧
    ScheduleFits (atBase 4294967284#32) (switches false true false) pair ∧
    ¬ScheduleFits (atBase 4294967288#32) (switches false true false) pair ∧
    ScheduleFits (atBase 4294967292#32) (switches false true false) [] := by
  refine ⟨by decide, ?_, ?_, ?_, ?_⟩
  · intro last h
    have h0 : 0 = last := Option.some.inj h
    subst h0
    decide
  · intro last h
    have h2 : 2 = last := Option.some.inj h
    subst h2
    decide
  · intro h
    exact absurd (h 2 rfl) (by decide)
  · intro last h
    cases h
/-- The run of one instruction, five cycles (L2.10), and of two with a bubble, seven (L2.8): the positions 0 and 2. -/
theorem witness_FinalPositionsAreTheSchedule :
    runToEnd 5 (start [.lui 5#5 1#20] (switches false true true) Params.specDefault) = .next ended ∧ ended.done = true ∧
    (stateOf? (runToEnd 7 (start pair (switches false true false) Params.specDefault))).map
      (fun s => (s.done, realPositions s.seq)) = some (true, [0, 2]) :=
  ⟨rfl, by decide, by decide⟩
/-- The runs of the pair with forwarding, without, and with the data switch off, the control switch on in all three: none,
one and no bubble (L2.8). -/
theorem witness_ForwardingNeverAddsBubbles :
    (stateOf? (runToEnd 7 (start pair (switches true true true) Params.specDefault))).map
      (fun s => (s.done, s.bubbles)) = some (true, 0) ∧
    (stateOf? (runToEnd 7 (start pair (switches false true true) Params.specDefault))).map
      (fun s => (s.done, s.bubbles)) = some (true, 1) ∧
    (stateOf? (runToEnd 7 (start pair (switches false false true) Params.specDefault))).map
      (fun s => (s.done, s.bubbles)) = some (true, 0) ∧
    Params.specDefault.cmp = .strict ∧ (switches true true false).controlHazardEnabled = false := by decide
/-- A good state under the strict policy whose candidate reads what is in flight. -/
theorem witness_ForwardingRemovesRaw :
    mid.Inv ∧ mid.params.cmp = .strict ∧ mid.advanced.candidate? = some midCut ∧
    raw mid.params false mid.advanced.inflight midCut.cand.metadata midCut.cand.currentStage = true :=
  ⟨mid_inv, by decide, mid_candidate, by decide⟩
theorem witness_NoSwitchNoBubble :
    midFree.cfg.dataHazardEnabled = false ∧ midFree.cfg.controlHazardEnabled = false ∧
    (stateOf? (step midFree)).isSome = true := by decide
theorem witness_HardwareReadingAgrees : mid.Inv ∧ mid.done = false ∧ step mid = .next midNext ∧
    mid.hardware.next = midNext.hardware := ⟨mid_inv, by decide, mid_steps, by decide⟩
/-- The premises of the report, and the cases of the refusal: a base of 2, and no room for the third slot. -/
theorem witness_RunReportsTraceAndSummary :
    (atBase 4294967284#32).basePC.toNat % 4 = 0 ∧
    ScheduleFits (atBase 4294967284#32) (switches false true false) pair ∧
    (atBase 2#32).basePC.toNat % 4 ≠ 0 ∧ (atBase 4294967288#32).basePC.toNat % 4 = 0 ∧
    ¬ScheduleFits (atBase 4294967288#32) (switches false true false) pair :=
  ⟨by decide, witness_EveryRunEndsOnTime.2.2.1, by decide, by decide, witness_EveryRunEndsOnTime.2.2.2.1⟩
/-- 1 bubble for 3 instructions is 100/3 per cent, worked by hand; none for the empty program (R154). -/
theorem witness_OverheadIsTheExactRational :
    overhead 1 3 = some { num := 100, den := 3 } ∧ overhead 1 2 = some { num := 50, den := 1 } ∧
    overhead 0 0 = none := by decide

end Sys2Proof.Tests
end

section
/-! PROOFS. The entries of the engine state (R18, R25). A Step leaves the list of identities (body, id, original program
counter) as it is, or puts the identity of one bubble into it; what R25 asks of the real entries and of the number of
slots follows from that alone. -/

namespace Sys2Proof

/-! ### The invariant of the metadata (R18) -/

theorem InstructionMeta.writesRegister_iff (m : InstructionMeta) :
    m.writesRegister = true ↔ m.destReg ≠ none := Option.isSome_iff_ne_none

theorem InstructionMeta.readsRegister_iff (m : InstructionMeta) :
    m.readsRegister = true ↔ 0 < m.sourceRegs.toList.length := by
  simp [InstructionMeta.readsRegister, List.length_pos_iff]

/-- Settles O15: both flags are computed from the operands. -/
theorem metadataFlagsFollowTheOperands : Obligations.MetadataFlagsFollowTheOperands := fun m =>
  ⟨m.writesRegister_iff.symm, m.readsRegister_iff.symm⟩

end Sys2Proof

namespace Sys2Proof.Machine

/-! ### The identities of a state -/

/-- The identities of all entries, in program order. -/
def State.identities (s : State) : List (Body × Int × PC) := s.seq.map Entry.identity

/-- Whether an identity is that of a real entry. -/
def isRealIdentity (x : Body × Int × PC) : Bool := x.1 != .bubble

@[simp] theorem isRealIdentity_identity (e : Entry) : isRealIdentity e.identity = e.isReal := by
  cases hb : e.body <;> simp [isRealIdentity, Entry.identity, Entry.isReal, hb]

/-- The real identities are determined by the identities. -/
theorem State.realIdentities_eq_filter (s : State) : s.realIdentities = s.identities.filter isRealIdentity := by
  simp [State.realIdentities, State.identities, List.filter_map, Function.comp_def]

@[simp] theorem State.length_identities (s : State) : s.identities.length = s.seq.length := List.length_map ..

/-! Each sub-step on the identities. -/

@[simp] theorem State.identities_advanced (s : State) : s.advanced.identities = s.identities := by
  simp [State.identities]

@[simp] theorem State.identities_dropCompleted (s : State) : s.dropCompleted.identities = s.identities := by
  simp [State.identities]

theorem State.identities_of_candidate {s : State} {c : Cut} (h : s.candidate? = some c) :
    s.identities = c.before.map Entry.identity ++ (c.cand :: c.after).map Entry.identity := by
  obtain ⟨hseq, -, -⟩ := cutAtCandidate_some h
  rw [State.identities, hseq, List.map_append]

theorem State.identities_enter {s : State} {c : Cut} (h : s.candidate? = some c) :
    (s.enter c).identities = s.identities := by
  rw [State.identities_of_candidate h]
  simp [State.identities]

theorem State.identities_insertBubble (s : State) (c : Cut) :
    (s.insertBubble c).identities = c.before.map Entry.identity ++
      (newBubble c.cand.programCounter).identity :: (c.cand :: c.after).map Entry.identity := by
  simp [State.identities]

/-! ### The identities across a Step -/

/-- `l'` is `l`, or `l` with the identity of one bubble put in somewhere. -/
inductive GainsAtMostOneBubble (l : List (Body × Int × PC)) : List (Body × Int × PC) → Prop where
  | same : GainsAtMostOneBubble l l
  | bubble (l₁ l₂ : List (Body × Int × PC)) (pc : PC) (h : l = l₁ ++ l₂) :
      GainsAtMostOneBubble l (l₁ ++ (newBubble pc).identity :: l₂)

namespace GainsAtMostOneBubble

variable {l l' : List (Body × Int × PC)}

theorem sublist (h : GainsAtMostOneBubble l l') : l.Sublist l' := by
  cases h with
  | same => exact .refl l
  | bubble l₁ l₂ pc h => exact h ▸ (List.sublist_cons_self _ l₂).append_left l₁

theorem filter_isRealIdentity (h : GainsAtMostOneBubble l l') :
    l'.filter isRealIdentity = l.filter isRealIdentity := by
  cases h with
  | same => rfl
  | bubble l₁ l₂ pc h => simp [h]

theorem length (h : GainsAtMostOneBubble l l') : l'.length = l.length ∨ l'.length = l.length + 1 := by
  cases h with
  | same => exact .inl rfl
  | bubble l₁ l₂ pc h => exact .inr (by simp [h, Nat.add_assoc])

end GainsAtMostOneBubble

/-- The turn of the candidate: only the stall adds an entry, and that is a bubble (R139, R140). -/
theorem issue_identities {s t : State} (h : issue s = .next t) : GainsAtMostOneBubble s.identities t.identities := by
  obtain ⟨-, rfl⟩ | ⟨c, hc, -, rfl⟩ | ⟨c, hc, -, -, rfl⟩ := issue_next h
  · exact .same
  · rw [State.identities_enter hc]
    exact .same
  · rw [State.identities_insertBubble]
    exact .bubble _ _ _ (State.identities_of_candidate hc)

/-- The other sub-steps leave the identities as they are (R137, R141). -/
theorem step_identities {s t : State} (h : step s = .next t) : GainsAtMostOneBubble s.identities t.identities := by
  obtain ⟨-, ⟨-, rfl⟩ | ⟨-, u, hu, rfl⟩⟩ := step_next h
  · exact .same
  · simpa using issue_identities hu

/-- Settles O42: the three clauses hold of any list of identities that gains at most one bubble. -/
theorem stepDestroysNoEntry : Obligations.StepDestroysNoEntry := by
  intro s t h
  have hg := step_identities h
  refine ⟨hg.sublist, ?_, ?_⟩
  · rw [State.realIdentities_eq_filter, State.realIdentities_eq_filter, hg.filter_isRealIdentity]
  · simpa using hg.length

end Sys2Proof.Machine
end

section
/-! PROOFS. What a decoded instruction keeps of its word (R50 to R57). Each opcode's decoder only chooses a kind: the
opcode and the raw fields it was given can be read back from the instruction it answers, so those of a decoded word are
the bits the field extraction read. -/

namespace Sys2Proof

/-! ### The decoder of one opcode keeps its opcode and its fields (R61) -/

/-- Case analysis on `funct3`, the key of every opcode's decoder: at each of its values the decoder computes. -/
theorem funct3_cases {P : Funct3 → Prop} (zero : P 0#3) (one : P 1#3) (two : P 2#3) (three : P 3#3) (four : P 4#3)
    (five : P 5#3) (six : P 6#3) (seven : P 7#3) (f3 : Funct3) : P f3 := by
  have hvalues : ∀ f : Funct3,
      f = 0#3 ∨ f = 1#3 ∨ f = 2#3 ∨ f = 3#3 ∨ f = 4#3 ∨ f = 5#3 ∨ f = 6#3 ∨ f = 7#3 := by decide
  obtain rfl | rfl | rfl | rfl | rfl | rfl | rfl | rfl := hvalues f3 <;> assumption

section
variable (rd rs1 rs2 : Reg) (f3 : Funct3)

theorem decodeOp_opcode_fields (f7 : Funct7) :
    (decodeOp rd f3 rs1 rs2 f7).opcode = 0x33#7 ∧ (decodeOp rd f3 rs1 rs2 f7).fields = .r rd f3 rs1 rs2 f7 := by
  by_cases h00 : f7 = 0x00#7
  · subst h00
    cases f3 using funct3_cases <;> exact ⟨rfl, rfl⟩
  by_cases h20 : f7 = 0x20#7
  · subst h20
    cases f3 using funct3_cases <;> exact ⟨rfl, rfl⟩
  · rw [decodeOp, if_neg h00, if_neg h20]
    exact ⟨rfl, rfl⟩

theorem decodeOpImm_shiftLeft (imm : BitVec 12) : decodeOpImm rd 1#3 rs1 imm =
    if shiftSelector imm = 0x00#7 then .slli rd rs1 imm else .unknownIOpImm rd 1#3 rs1 imm := rfl

theorem decodeOpImm_shiftRight (imm : BitVec 12) : decodeOpImm rd 5#3 rs1 imm =
    if shiftSelector imm = 0x00#7 then .srli rd rs1 imm
    else if shiftSelector imm = 0x20#7 then .srai rd rs1 imm
    else .unknownIOpImm rd 5#3 rs1 imm := rfl

theorem decodeOpImm_opcode_fields (imm : BitVec 12) :
    (decodeOpImm rd f3 rs1 imm).opcode = 0x13#7 ∧ (decodeOpImm rd f3 rs1 imm).fields = .i rd f3 rs1 imm := by
  cases f3 using funct3_cases
  case one =>
    rw [decodeOpImm_shiftLeft]
    split_ifs <;> exact ⟨rfl, rfl⟩
  case five =>
    rw [decodeOpImm_shiftRight]
    split_ifs <;> exact ⟨rfl, rfl⟩
  all_goals exact ⟨rfl, rfl⟩

theorem decodeLoad_opcode_fields (imm : BitVec 12) :
    (decodeLoad rd f3 rs1 imm).opcode = 0x03#7 ∧ (decodeLoad rd f3 rs1 imm).fields = .i rd f3 rs1 imm := by
  cases f3 using funct3_cases <;> exact ⟨rfl, rfl⟩

theorem decodeJalr_opcode_fields (imm : BitVec 12) :
    (decodeJalr rd f3 rs1 imm).opcode = 0x67#7 ∧ (decodeJalr rd f3 rs1 imm).fields = .i rd f3 rs1 imm := by
  cases f3 using funct3_cases <;> exact ⟨rfl, rfl⟩

theorem decodeStore_opcode_fields (imm : BitVec 12) :
    (decodeStore f3 rs1 rs2 imm).opcode = 0x23#7 ∧ (decodeStore f3 rs1 rs2 imm).fields = .s f3 rs1 rs2 imm := by
  cases f3 using funct3_cases <;> exact ⟨rfl, rfl⟩

theorem decodeBranch_opcode_fields (imm : BitVec 13) :
    (decodeBranch f3 rs1 rs2 imm).opcode = 0x63#7 ∧ (decodeBranch f3 rs1 rs2 imm).fields = .b f3 rs1 rs2 imm := by
  cases f3 using funct3_cases <;> exact ⟨rfl, rfl⟩

end

/-! ### The decoder of all words (R66) -/

/-- `word & 0x7F` is `w[6:0]` (R50). -/
theorem opcodeOf_eq_and (w : Word) : opcodeOf w = (w &&& 0x7F#32).setWidth 7 := by
  have hmask : (0x7F#32).setWidth 7 = BitVec.allOnes 7 := rfl
  rw [BitVec.setWidth_and, hmask, BitVec.and_allOnes, BitVec.setWidth_eq_extractLsb' (by decide)]
  rfl

@[simp] theorem fmt_fieldsOf (fmt : Fmt) (w : Word) : (fieldsOf fmt w).fmt = fmt := by
  cases fmt <;> rfl

/-- Each dispatched opcode hands the fields of one format to its own decoder, which keeps them (R51, R61). -/
theorem opcode_fields_of_decode {w : Word} {i : Instr} (h : decode w = .instr i) :
    i.opcode = opcodeOf w ∧ ∃ fmt, i.fields = fieldsOf fmt w := by
  simp only [decode, ite_eq_iff, Decoded.instr.injEq, reduceCtorEq, and_false, or_false] at h
  obtain ⟨hopc, rfl⟩ | ⟨-, ⟨hopc, rfl⟩ | ⟨-, ⟨hopc, rfl⟩ | ⟨-, ⟨hopc, rfl⟩ | ⟨-, ⟨hopc, rfl⟩ | ⟨-, ⟨hopc, rfl⟩ |
    ⟨-, ⟨hopc, rfl⟩ | ⟨-, ⟨hopc, rfl⟩ | ⟨-, hopc, rfl⟩⟩⟩⟩⟩⟩⟩⟩ := h <;> rw [hopc]
  · exact (decodeOp_opcode_fields ..).imp_right (.intro .R)
  · exact (decodeLoad_opcode_fields ..).imp_right (.intro .I)
  · exact (decodeOpImm_opcode_fields ..).imp_right (.intro .I)
  · exact (decodeJalr_opcode_fields ..).imp_right (.intro .I)
  · exact (decodeStore_opcode_fields ..).imp_right (.intro .S)
  · exact (decodeBranch_opcode_fields ..).imp_right (.intro .B)
  · exact ⟨rfl, .U, rfl⟩
  · exact ⟨rfl, .U, rfl⟩
  · exact ⟨rfl, .J, rfl⟩

theorem opcode_of_decode {w : Word} {i : Instr} (h : decode w = .instr i) : i.opcode = opcodeOf w :=
  (opcode_fields_of_decode h).1

/-- The format that extracted the fields is the instruction's own, since its fields tell it (R16). -/
theorem fields_of_decode {w : Word} {i : Instr} (h : decode w = .instr i) : i.fields = fieldsOf i.fmt w := by
  obtain ⟨-, fmt, hf⟩ := opcode_fields_of_decode h
  have hfmt : i.fmt = fmt := by rw [Instr.fmt, hf, fmt_fieldsOf]
  rw [hfmt, hf]

/-- Settles O4: the bit ranges the statement writes out are, format by format, those of `fieldsOf`. -/
theorem decodedFieldsAreTheFormatsBits : Obligations.DecodedFieldsAreTheFormatsBits := by
  intro w i h
  refine ⟨(opcode_of_decode h).trans (opcodeOf_eq_and w), ?_⟩
  rw [fields_of_decode h]
  cases i.fmt <;> rfl

end Sys2Proof
end

section
/-! PROOFS. The sub-steps of a Step around the candidate's turn, and the arbitration signal (R135, R137, R141). Sub-step
1 is said of one entry in its life cycle, sub-step 3 of the slot of the candidate, sub-step 4 of the in-flight set. -/

namespace Sys2Proof

/-! ### The stages (R15) -/

/-- WB alone has no stage after it (log entry 6). -/
theorem Stage.ordinal_next {st : Stage} (h : st ≠ .WB) : st.next.ordinal = st.ordinal + 1 := by
  cases st with
  | WB => exact absurd rfl h
  | _ => rfl

theorem Stage.completes_iff {st : Stage} : st.completes = true ↔ 5 ≤ st.ordinal := decide_eq_true_iff

end Sys2Proof

namespace Sys2Proof.Machine

/-! ### The arbitration signal (R135) -/

/-- Settles O19: the state hands the detector its own switches, parameters and in-flight set. -/
theorem arbitrationFormula : Obligations.ArbitrationFormula := fun _ _ _ => blockedBy_iff

/-! ### Sub-step 1 (R137) -/

theorem Entry.LifeCycle.of_inFlight {e : Entry} (h : e.LifeCycle) (hf : e.inFlight = true) :
    e.currentStage ≠ .WB ∧ e.hasCompleted = false := by
  obtain ⟨-, -, -, hout⟩ | ⟨hst, -, hc, -⟩ | ⟨-, -, -, hout⟩ := h
  · simp [hf] at hout
  · refine ⟨fun hwb => ?_, hc⟩
    simp [hwb] at hst
  · simp [hf] at hout

theorem Entry.advance_of_not_inFlight {e : Entry} (h : e.inFlight = false) : e.advance = e := by
  simp [Entry.advance, h]

/-- The frame of the advance: no other field changes. -/
theorem Entry.advance_eq_with (e : Entry) :
    e.advance = { e with currentStage := e.advance.currentStage, hasCompleted := e.advance.hasCompleted } := by
  unfold Entry.advance
  split <;> rfl

theorem Entry.LifeCycle.ordinal_advance {e : Entry} (h : e.LifeCycle) (hf : e.inFlight = true) :
    e.advance.currentStage.ordinal = e.currentStage.ordinal + 1 := by
  rw [Entry.advance_currentStage, if_pos hf]
  exact Stage.ordinal_next (h.of_inFlight hf).1

theorem Entry.LifeCycle.hasCompleted_advance_iff {e : Entry} (h : e.LifeCycle) (hf : e.inFlight = true) :
    e.advance.hasCompleted = true ↔ 5 ≤ e.advance.currentStage.ordinal := by
  obtain ⟨-, hc⟩ := h.of_inFlight hf
  simp [hf, hc, Stage.completes_iff]

/-! ### Sub-step 3 on the slot of the candidate (R139, R140) -/

/-- Admitted or stalled, what stands in the candidate's place is in IF. -/
theorem issue_seq_of_candidate {s u : State} {c : Cut} (h : issue s = .next u) (hc : s.candidate? = some c) :
    ∃ e rest, u.seq = c.before ++ e :: rest ∧ e.currentStage = .IF := by
  obtain ⟨hn, -⟩ | ⟨d, hd, -, rfl⟩ | ⟨d, hd, -, -, rfl⟩ := issue_next h
  · simp [hc] at hn
  · obtain rfl : c = d := Option.some.inj (hc.symm.trans hd)
    exact ⟨c.cand.enter, c.after, s.enter_seq c, rfl⟩
  · obtain rfl : c = d := Option.some.inj (hc.symm.trans hd)
    exact ⟨_, _, s.insertBubble_seq c, rfl⟩

/-- The advance completes entries and never undoes it, so an ended state has no candidate (R138, R145). -/
theorem State.candidate?_advanced_of_done {s : State} (h : s.done = true) : s.advanced.candidate? = none := by
  have hcomp : ∀ e ∈ s.seq, e.hasCompleted = true := List.all_eq_true.mp h
  refine cutAtCandidate_none.mpr fun e he => ?_
  obtain ⟨e₀, he₀, rfl⟩ := List.mem_map.mp he
  simp [Entry.isWaiting, hcomp e₀ he₀]

/-- After a step the slot of the candidate is in IF, not advanced (R137). -/
theorem step_getElem_candidate {s t : State} {c : Cut} (h : step s = .next t)
    (hc : s.advanced.candidate? = some c) : ∃ e, t.seq[c.before.length]? = some e ∧ e.currentStage = .IF := by
  obtain ⟨-, ⟨hd, -⟩ | ⟨-, u, hu, rfl⟩⟩ := step_next h
  · simp [State.candidate?_advanced_of_done hd] at hc
  · obtain ⟨e, rest, hseq, hIF⟩ := issue_seq_of_candidate hu hc
    exact ⟨e.drop, by simp [hseq], hIF⟩

/-- Settles O37: the advance slot by slot, and the slot of the candidate after the step. -/
theorem inFlightEntriesAdvanceOneStage : Obligations.InFlightEntriesAdvanceOneStage := by
  refine ⟨fun s k e hlife hk => ⟨e.advance, by simp [hk], fun hf => ?_, Entry.advance_of_not_inFlight⟩,
    fun s t c => step_getElem_candidate⟩
  have he : e.LifeCycle := hlife e (List.mem_of_getElem? hk)
  exact ⟨he.ordinal_advance hf, he.hasCompleted_advance_iff hf, e.advance_eq_with⟩

/-! ### Sub-step 4 (R141) -/

theorem Entry.drop_of_not_completed {e : Entry} (h : e.hasCompleted = false) : e.drop = e := by
  have hbit : (e.inFlight && !e.hasCompleted) = e.inFlight := by simp [h]
  rw [Entry.drop, hbit]

/-- The entries that stay in the in-flight set are not completed, and the drop leaves those as they are. -/
theorem State.inflight_dropCompleted (s : State) :
    s.dropCompleted.inflight = s.inflight.filter (fun e => !e.hasCompleted) := by
  have hkeep : ∀ e ∈ s.seq.filter fun e => e.inFlight && !e.hasCompleted, e.drop = e := fun e he =>
    Entry.drop_of_not_completed (by simp_all)
  calc s.dropCompleted.inflight
      = (s.seq.filter fun e => e.inFlight && !e.hasCompleted).map Entry.drop := List.filter_map
    _ = s.seq.filter fun e => e.inFlight && !e.hasCompleted := (List.map_congr_left hkeep).trans (List.map_id' _)
    _ = s.inflight.filter fun e => !e.hasCompleted := by simp [State.inflight, Bool.and_comm]

/-- Settles O38: the drop writes the in-flight bit only. -/
theorem completedEntriesLeaveTheInFlightSet : Obligations.CompletedEntriesLeaveTheInFlightSet := by
  refine fun s => ⟨s.inflight_dropCompleted, ?_⟩
  rw [State.dropCompleted_seq, List.map_map]
  rfl

end Sys2Proof.Machine
end

section
/-! PROOFS. The decoder and the encoder are inverse to each other (R52 to R66). A word is its opcode and the fields of its
format put together again, and an instruction's word is made of its opcode and its fields; so what is left of each
round trip is the choice of the kind, one lemma per opcode. -/

namespace Sys2Proof

/-! ### Dispatch (R51, R65) -/

section
variable {w : Word}

theorem decode_op (h : opcodeOf w = 0x33#7) :
    decode w = .instr (decodeOp (rdOf w) (funct3Of w) (rs1Of w) (rs2Of w) (funct7Of w)) := by simp [decode, h]

theorem decode_opImm (h : opcodeOf w = 0x13#7) :
    decode w = .instr (decodeOpImm (rdOf w) (funct3Of w) (rs1Of w) (immIOf w)) := by simp [decode, h]

theorem decode_load (h : opcodeOf w = 0x03#7) :
    decode w = .instr (decodeLoad (rdOf w) (funct3Of w) (rs1Of w) (immIOf w)) := by simp [decode, h]

theorem decode_jalr (h : opcodeOf w = 0x67#7) :
    decode w = .instr (decodeJalr (rdOf w) (funct3Of w) (rs1Of w) (immIOf w)) := by simp [decode, h]

theorem decode_store (h : opcodeOf w = 0x23#7) :
    decode w = .instr (decodeStore (funct3Of w) (rs1Of w) (rs2Of w) (immSOf w)) := by simp [decode, h]

theorem decode_branch (h : opcodeOf w = 0x63#7) :
    decode w = .instr (decodeBranch (funct3Of w) (rs1Of w) (rs2Of w) (immBOf w)) := by simp [decode, h]

theorem decode_lui (h : opcodeOf w = 0x37#7) : decode w = .instr (.lui (rdOf w) (immUOf w)) := by simp [decode, h]

theorem decode_auipc (h : opcodeOf w = 0x17#7) : decode w = .instr (.auipc (rdOf w) (immUOf w)) := by
  simp [decode, h]

theorem decode_jal (h : opcodeOf w = 0x6F#7) : decode w = .instr (.jal (rdOf w) (immJOf w)) := by simp [decode, h]

end

/-! ### The word of the decoded instruction -/

/-- The word of an opcode and the raw fields of a format (R52 to R57). -/
def encodeFields (opc : Opcode) : Fields → Word
  | .r rd f3 rs1 rs2 f7 => encodeR f7 rs2 rs1 f3 rd opc
  | .i rd f3 rs1 imm => encodeI imm rs1 f3 rd opc
  | .s f3 rs1 rs2 imm => encodeS imm rs2 rs1 f3 opc
  | .b f3 rs1 rs2 imm => encodeB imm rs2 rs1 f3 opc
  | .u rd imm => encodeU imm rd opc
  | .j rd imm => encodeJ imm rd opc

theorem encode_eq_encodeFields (i : Instr) : encode i = encodeFields i.opcode i.fields := by
  cases i <;> rfl

theorem encodeFields_fieldsOf (fmt : Fmt) (w : Word) : encodeFields (opcodeOf w) (fieldsOf fmt w) = w := by
  cases fmt with
  | R => exact encodeR_fields w
  | I => exact encodeI_fields w
  | S => exact encodeS_fields w
  | B => exact encodeB_fields w
  | U => exact encodeU_fields w
  | J => exact encodeJ_fields w

theorem encode_of_decode {w : Word} {i : Instr} (h : decode w = .instr i) : encode i = w := by
  rw [encode_eq_encodeFields, opcode_of_decode h, fields_of_decode h, encodeFields_fieldsOf]

/-! ### What each opcode's decoder answers is well-formed (R55, R57, R61, R63) -/

section
variable (rd rs1 rs2 : Reg) (f3 : Funct3)

/-- Keys of no R kind are left as they are (R63). -/
theorem decodeOp_of_not_isRKey {f7 : Funct7} (h : isRKey f3 f7 = false) :
    decodeOp rd f3 rs1 rs2 f7 = .unknownR rd f3 rs1 rs2 f7 := by
  simp only [isRKey, Bool.or_eq_false_iff, beq_eq_false_iff_ne, Bool.and_eq_false_iff] at h
  obtain ⟨h00, h20⟩ := h
  rw [decodeOp, if_neg h00]
  split_ifs <;> simp_all

theorem wf_decodeOp (f7 : Funct7) : (decodeOp rd f3 rs1 rs2 f7).wf = true := by
  cases hk : isRKey f3 f7 with
  | false => simp [decodeOp_of_not_isRKey _ _ _ _ hk, Instr.wf, hk]
  | true =>
    obtain h00 | ⟨h20, h0 | h5⟩ : f7 = 0x00#7 ∨ (f7 = 0x20#7 ∧ (f3 = 0#3 ∨ f3 = 5#3)) := by simpa [isRKey] using hk
    · subst h00
      cases f3 using funct3_cases <;> rfl
    · rw [h20, h0]
      rfl
    · rw [h20, h5]
      rfl

theorem wf_decodeOpImm (imm : BitVec 12) : (decodeOpImm rd f3 rs1 imm).wf = true := by
  cases f3 using funct3_cases
  case one =>
    rw [decodeOpImm_shiftLeft]
    split_ifs with h <;> simp [Instr.wf, isOpImmKey, h]
  case five =>
    rw [decodeOpImm_shiftRight]
    split_ifs with h h' <;> simp [Instr.wf, isOpImmKey, *]
  all_goals rfl

theorem wf_decodeLoad (imm : BitVec 12) : (decodeLoad rd f3 rs1 imm).wf = true := by
  cases f3 using funct3_cases <;> rfl

theorem wf_decodeJalr (imm : BitVec 12) : (decodeJalr rd f3 rs1 imm).wf = true := by
  cases f3 using funct3_cases <;> rfl

theorem wf_decodeStore (imm : BitVec 12) : (decodeStore f3 rs1 rs2 imm).wf = true := by
  cases f3 using funct3_cases <;> rfl

theorem wf_decodeBranch {imm : BitVec 13} (h : evenB imm = true) : (decodeBranch f3 rs1 rs2 imm).wf = true := by
  cases f3 using funct3_cases <;> exact h

end

theorem wf_of_decode {w : Word} {i : Instr} (h : decode w = .instr i) : i.wf = true := by
  simp only [decode, ite_eq_iff, Decoded.instr.injEq, reduceCtorEq, and_false, or_false] at h
  obtain ⟨-, rfl⟩ | ⟨-, ⟨-, rfl⟩ | ⟨-, ⟨-, rfl⟩ | ⟨-, ⟨-, rfl⟩ | ⟨-, ⟨-, rfl⟩ | ⟨-, ⟨-, rfl⟩ |
    ⟨-, ⟨-, rfl⟩ | ⟨-, ⟨-, rfl⟩ | ⟨-, -, rfl⟩⟩⟩⟩⟩⟩⟩⟩ := h
  · exact wf_decodeOp ..
  · exact wf_decodeLoad ..
  · exact wf_decodeOpImm ..
  · exact wf_decodeJalr ..
  · exact wf_decodeStore ..
  · exact wf_decodeBranch _ _ _ (evenB_immBOf w)
  · rfl
  · rfl
  · exact evenJ_immJOf w

/-- Settles O2: the decoder keeps the opcode and the fields, and the word is those put together again. -/
theorem encodeOfDecodeIsTheWord : Obligations.EncodeOfDecodeIsTheWord := fun _ _ h =>
  ⟨wf_of_decode h, encode_of_decode h⟩

/-! ### Decoding the word of an instruction: the decoder of its opcode is given the fields the word was built from -/

section
variable (rd rs1 rs2 : Reg) (f3 : Funct3)

theorem decode_encodeR (f7 : Funct7) :
    decode (encodeR f7 rs2 rs1 f3 rd 0x33#7) = .instr (decodeOp rd f3 rs1 rs2 f7) := by
  obtain ⟨hopc, hrd, hf3, hrs1, hrs2, hf7⟩ := fields_encodeR 0x33#7 rd rs1 rs2 f3 f7
  rw [decode_op hopc, hrd, hf3, hrs1, hrs2, hf7]

theorem decode_encodeI_opImm (imm : BitVec 12) :
    decode (encodeI imm rs1 f3 rd 0x13#7) = .instr (decodeOpImm rd f3 rs1 imm) := by
  obtain ⟨hopc, hrd, hf3, hrs1, himm⟩ := fields_encodeI 0x13#7 rd rs1 f3 imm
  rw [decode_opImm hopc, hrd, hf3, hrs1, himm]

theorem decode_encodeI_load (imm : BitVec 12) :
    decode (encodeI imm rs1 f3 rd 0x03#7) = .instr (decodeLoad rd f3 rs1 imm) := by
  obtain ⟨hopc, hrd, hf3, hrs1, himm⟩ := fields_encodeI 0x03#7 rd rs1 f3 imm
  rw [decode_load hopc, hrd, hf3, hrs1, himm]

theorem decode_encodeI_jalr (imm : BitVec 12) :
    decode (encodeI imm rs1 f3 rd 0x67#7) = .instr (decodeJalr rd f3 rs1 imm) := by
  obtain ⟨hopc, hrd, hf3, hrs1, himm⟩ := fields_encodeI 0x67#7 rd rs1 f3 imm
  rw [decode_jalr hopc, hrd, hf3, hrs1, himm]

theorem decode_encodeS (imm : BitVec 12) :
    decode (encodeS imm rs2 rs1 f3 0x23#7) = .instr (decodeStore f3 rs1 rs2 imm) := by
  obtain ⟨hopc, hf3, hrs1, hrs2, himm⟩ := fields_encodeS 0x23#7 rs1 rs2 f3 imm
  rw [decode_store hopc, hf3, hrs1, hrs2, himm]

theorem decode_encodeB {imm : BitVec 13} (h : evenB imm = true) :
    decode (encodeB imm rs2 rs1 f3 0x63#7) = .instr (decodeBranch f3 rs1 rs2 imm) := by
  obtain ⟨hopc, hf3, hrs1, hrs2, himm⟩ := fields_encodeB 0x63#7 rs1 rs2 f3 imm h
  rw [decode_branch hopc, hf3, hrs1, hrs2, himm]

theorem decode_encodeU_lui (imm : BitVec 20) : decode (encodeU imm rd 0x37#7) = .instr (.lui rd imm) := by
  obtain ⟨hopc, hrd, himm⟩ := fields_encodeU 0x37#7 rd imm
  rw [decode_lui hopc, hrd, himm]

theorem decode_encodeU_auipc (imm : BitVec 20) : decode (encodeU imm rd 0x17#7) = .instr (.auipc rd imm) := by
  obtain ⟨hopc, hrd, himm⟩ := fields_encodeU 0x17#7 rd imm
  rw [decode_auipc hopc, hrd, himm]

theorem decode_encodeJ {imm : BitVec 21} (h : evenJ imm = true) :
    decode (encodeJ imm rd 0x6F#7) = .instr (.jal rd imm) := by
  obtain ⟨hopc, hrd, himm⟩ := fields_encodeJ 0x6F#7 rd imm h
  rw [decode_jal hopc, hrd, himm]

/-! The keys of a placeholder select no kind, so the decoder of its opcode answers the placeholder (R63). -/

theorem decodeOpImm_of_not_isOpImmKey {imm : BitVec 12} (h : isOpImmKey f3 imm = false) :
    decodeOpImm rd f3 rs1 imm = .unknownIOpImm rd f3 rs1 imm := by
  cases f3 using funct3_cases
  case one =>
    rw [decodeOpImm_shiftLeft, if_neg (by simpa [isOpImmKey] using h)]
  case five =>
    obtain ⟨h00, h20⟩ : shiftSelector imm ≠ 0x00#7 ∧ shiftSelector imm ≠ 0x20#7 := by simpa [isOpImmKey] using h
    rw [decodeOpImm_shiftRight, if_neg h00, if_neg h20]
  all_goals simp [isOpImmKey] at h

theorem decodeLoad_of_not_isLoadKey {imm : BitVec 12} (h : isLoadKey f3 = false) :
    decodeLoad rd f3 rs1 imm = .unknownILoad rd f3 rs1 imm := by
  simp_all [decodeLoad, isLoadKey]

theorem decodeStore_of_not_isStoreKey {imm : BitVec 12} (h : isStoreKey f3 = false) :
    decodeStore f3 rs1 rs2 imm = .unknownS f3 rs1 rs2 imm := by
  simp_all [decodeStore, isStoreKey]

theorem decodeBranch_of_not_isBranchKey {imm : BitVec 13} (h : isBranchKey f3 = false) :
    decodeBranch f3 rs1 rs2 imm = .unknownB f3 rs1 rs2 imm := by
  obtain rfl | rfl : f3 = 2#3 ∨ f3 = 3#3 := by simpa [isBranchKey, or_iff_not_imp_left] using h
  · rfl
  · rfl

/-! The selector of a shift kind selects it (R61). -/

theorem decodeOpImm_slli {imm : BitVec 12} (h : shiftSelector imm = 0x00#7) :
    decodeOpImm rd 1#3 rs1 imm = .slli rd rs1 imm := by
  rw [decodeOpImm_shiftLeft, if_pos h]

theorem decodeOpImm_srli {imm : BitVec 12} (h : shiftSelector imm = 0x00#7) :
    decodeOpImm rd 5#3 rs1 imm = .srli rd rs1 imm := by
  rw [decodeOpImm_shiftRight, if_pos h]

theorem decodeOpImm_srai {imm : BitVec 12} (h : shiftSelector imm = 0x20#7) :
    decodeOpImm rd 5#3 rs1 imm = .srai rd rs1 imm := by
  rw [decodeOpImm_shiftRight, h]
  rfl

end

theorem decode_encode {i : Instr} (h : i.wf = true) : decode (encode i) = .instr i := by
  cases i with
  | add | sub | sll | slt | sltu | xor | srl | sra | or | and => exact decode_encodeR ..
  | addi | slti | sltiu | xori | ori | andi => exact decode_encodeI_opImm ..
  | lb | lh | lw | lbu | lhu => exact decode_encodeI_load ..
  | jalr => exact decode_encodeI_jalr ..
  | sb | sh | sw => exact decode_encodeS ..
  | beq | bne | blt | bge | bltu | bgeu => exact decode_encodeB _ _ _ h
  | lui => exact decode_encodeU_lui ..
  | auipc => exact decode_encodeU_auipc ..
  | jal => exact decode_encodeJ _ h
  | slli rd rs1 imm =>
    rw [encode, decode_encodeI_opImm, decodeOpImm_slli _ _ (by simpa [Instr.wf] using h)]
  | srli rd rs1 imm =>
    rw [encode, decode_encodeI_opImm, decodeOpImm_srli _ _ (by simpa [Instr.wf] using h)]
  | srai rd rs1 imm =>
    rw [encode, decode_encodeI_opImm, decodeOpImm_srai _ _ (by simpa [Instr.wf] using h)]
  | unknownR rd f3 rs1 rs2 f7 =>
    rw [encode, decode_encodeR, decodeOp_of_not_isRKey _ _ _ _ (by simpa [Instr.wf] using h)]
  | unknownIOpImm rd f3 rs1 imm =>
    rw [encode, decode_encodeI_opImm, decodeOpImm_of_not_isOpImmKey _ _ _ (by simpa [Instr.wf] using h)]
  | unknownILoad rd f3 rs1 imm =>
    rw [encode, decode_encodeI_load, decodeLoad_of_not_isLoadKey _ _ _ (by simpa [Instr.wf] using h)]
  | unknownIJalr rd f3 rs1 imm =>
    rw [encode, decode_encodeI_jalr, decodeJalr, if_neg (by simpa [Instr.wf] using h)]
  | unknownS f3 rs1 rs2 imm =>
    rw [encode, decode_encodeS, decodeStore_of_not_isStoreKey _ _ _ (by simpa [Instr.wf] using h)]
  | unknownB f3 rs1 rs2 imm =>
    obtain ⟨hkey, heven⟩ : isBranchKey f3 = false ∧ evenB imm = true := by simpa [Instr.wf] using h
    rw [encode, decode_encodeB _ _ _ heven, decodeBranch_of_not_isBranchKey _ _ _ hkey]

/-- Settles O1. -/
theorem decodeOfEncodeIsTheInstruction : Obligations.DecodeOfEncodeIsTheInstruction := fun _ => decode_encode

end Sys2Proof
end

section
/-! PROOFS. Which words are of which kind (R51, R61 to R65, R71 to R107): the dispatch table, the resolution of the kind
from the keys, the metadata of each family, and the opcode table. A row of the opcode table says no more of a word than
its keys, so every word of a kind row decodes to that kind; that no word is of two rows follows. -/

namespace Sys2Proof

open Sys2Proof.Machine

/-! ### The dispatch table (R51, R65) -/

theorem fmtOf_opcode (i : Instr) : fmtOf i.opcode = some i.fmt := by
  cases i <;> rfl

theorem fmtOf_of_decode {w : Word} {i : Instr} (h : decode w = .instr i) : fmtOf (opcodeOf w) = some i.fmt := by
  rw [← opcode_of_decode h, fmtOf_opcode]

theorem decode_eq_failure_iff {w : Word} {opc : Opcode} :
    decode w = .failure opc ↔ fmtOf (opcodeOf w) = none ∧ opcodeOf w = opc := by
  unfold decode fmtOf
  split_ifs <;> simp

theorem exists_decode_of_fmtOf {w : Word} {fmt : Fmt} (h : fmtOf (opcodeOf w) = some fmt) :
    ∃ i, decode w = .instr i ∧ i.fmt = fmt := by
  cases hw : decode w with
  | instr i => exact ⟨i, rfl, Option.some.inj ((fmtOf_of_decode hw).symm.trans h)⟩
  | failure opc => simp [(decode_eq_failure_iff.mp hw).1] at h

/-- The nine rows of the dispatch table (R51). -/
def dispatchRows : List (Opcode × Fmt) :=
  [(0x33#7, .R), (0x03#7, .I), (0x13#7, .I), (0x67#7, .I), (0x23#7, .S), (0x63#7, .B), (0x37#7, .U), (0x17#7, .U),
    (0x6F#7, .J)]

theorem mem_dispatchRows_iff {opc : Opcode} {fmt : Fmt} : (opc, fmt) ∈ dispatchRows ↔ fmtOf opc = some fmt := by
  constructor
  · intro h
    simp only [dispatchRows, List.mem_cons, Prod.mk.injEq, List.not_mem_nil, or_false] at h
    obtain ⟨rfl, rfl⟩ | ⟨rfl, rfl⟩ | ⟨rfl, rfl⟩ | ⟨rfl, rfl⟩ | ⟨rfl, rfl⟩ | ⟨rfl, rfl⟩ | ⟨rfl, rfl⟩ | ⟨rfl, rfl⟩ |
      ⟨rfl, rfl⟩ := h <;> rfl
  · unfold fmtOf
    split_ifs <;> simp +contextual [dispatchRows, *, eq_comm]

/-- Settles O3: a row of the table is an opcode with the format it is dispatched to. -/
theorem nineOpcodesAreDispatched : Obligations.NineOpcodesAreDispatched := by
  intro w
  change (∃ i, decode w = .instr i ∧ i.opcode = (w &&& 0x7F#32).setWidth 7 ∧
      ((w &&& 0x7F#32).setWidth 7, i.fmt) ∈ dispatchRows) ∨
    (∀ f, ((w &&& 0x7F#32).setWidth 7, f) ∉ dispatchRows) ∧ decode w = .failure ((w &&& 0x7F#32).setWidth 7)
  rw [← opcodeOf_eq_and]
  cases hw : decode w with
  | instr i => exact .inl ⟨i, rfl, opcode_of_decode hw, mem_dispatchRows_iff.mpr (fmtOf_of_decode hw)⟩
  | failure opc =>
    obtain ⟨hfmt, rfl⟩ := decode_eq_failure_iff.mp hw
    exact .inr ⟨by simp [mem_dispatchRows_iff, hfmt], rfl⟩

/-! ### The resolution of the kind (R61) -/

/-- Keys of no R kind: the table of R62 has no row for them. -/
theorem resolveR_of_not_isRKey {f3 : Funct3} {f7 : Funct7} (h : isRKey f3 f7 = false) :
    resolveKind.resolveR f3 f7 = .UNKNOWN_R := by
  have h00 : f7.toNat ≠ 0 := fun h0 => by
    simp [isRKey, BitVec.eq_of_toNat_eq (y := 0#7) h0] at h
  have h20 : f7.toNat = 32 → f3 ≠ 0#3 ∧ f3 ≠ 5#3 := fun h32 => by
    simpa [isRKey, BitVec.eq_of_toNat_eq (y := 32#7) h32] using h
  cases f3 using funct3_cases <;> simp_all [resolveKind.resolveR]

theorem resolveOpImm_of_not_isOpImmKey {f3 : Funct3} {imm : BitVec 12} (h : isOpImmKey f3 imm = false) :
    resolveKind.resolveOpImm f3 (shiftSelector imm) = .UNKNOWN_I := by
  have h00 : (shiftSelector imm).toNat = 0 → shiftSelector imm = 0#7 := BitVec.eq_of_toNat_eq (y := 0#7)
  have h20 : (shiftSelector imm).toNat = 32 → shiftSelector imm = 32#7 := BitVec.eq_of_toNat_eq (y := 32#7)
  cases f3 using funct3_cases <;> simp_all [resolveKind.resolveOpImm, isOpImmKey]

theorem resolveLoad_of_not_isLoadKey {f3 : Funct3} (h : isLoadKey f3 = false) :
    resolveKind.resolveLoad f3 = .UNKNOWN_I := by
  cases f3 using funct3_cases <;> simp_all [resolveKind.resolveLoad, isLoadKey]

theorem resolveStore_of_not_isStoreKey {f3 : Funct3} (h : isStoreKey f3 = false) :
    resolveKind.resolveStore f3 = .UNKNOWN_S := by
  cases f3 using funct3_cases <;> simp_all [resolveKind.resolveStore, isStoreKey]

theorem resolveBranch_of_not_isBranchKey {f3 : Funct3} (h : isBranchKey f3 = false) :
    resolveKind.resolveBranch f3 = .UNKNOWN_B := by
  cases f3 using funct3_cases <;> simp_all [resolveKind.resolveBranch, isBranchKey]

theorem resolveKind_of_wf {i : Instr} (h : i.wf = true) : resolveKind i.opcode i.fields = some i.kind := by
  cases i with
  | slli rd rs1 imm =>
    have hsel : shiftSelector imm = 0x00#7 := by simpa [Instr.wf] using h
    simp [Instr.opcode, Instr.fields, Instr.kind, resolveKind, hsel, resolveKind.resolveOpImm]
  | srli rd rs1 imm =>
    have hsel : shiftSelector imm = 0x00#7 := by simpa [Instr.wf] using h
    simp [Instr.opcode, Instr.fields, Instr.kind, resolveKind, hsel, resolveKind.resolveOpImm]
  | srai rd rs1 imm =>
    have hsel : shiftSelector imm = 0x20#7 := by simpa [Instr.wf] using h
    simp [Instr.opcode, Instr.fields, Instr.kind, resolveKind, hsel, resolveKind.resolveOpImm]
  | unknownR rd f3 rs1 rs2 f7 => exact congrArg some (resolveR_of_not_isRKey (by simpa [Instr.wf] using h))
  | unknownIOpImm rd f3 rs1 imm =>
    exact congrArg some (resolveOpImm_of_not_isOpImmKey (by simpa [Instr.wf] using h))
  | unknownILoad rd f3 rs1 imm => exact congrArg some (resolveLoad_of_not_isLoadKey (by simpa [Instr.wf] using h))
  | unknownIJalr rd f3 rs1 imm => exact congrArg some (if_neg (by simpa [Instr.wf] using h))
  | unknownS f3 rs1 rs2 imm => exact congrArg some (resolveStore_of_not_isStoreKey (by simpa [Instr.wf] using h))
  | unknownB f3 rs1 rs2 imm =>
    exact congrArg some (resolveBranch_of_not_isBranchKey (by simp_all [Instr.wf]))
  | _ => rfl

/-- Settles O5: what the decoder answers is well-formed, and of a well-formed instruction the keys tell the kind. -/
theorem kindIsResolvedFromTheKeys : Obligations.KindIsResolvedFromTheKeys := fun _ _ h =>
  resolveKind_of_wf (wf_of_decode h)

/-! ### The placeholders (R63, R64) -/

/-- A kind that is none of the 37 recognised ones. -/
def Kind.isUnknown (k : Kind) : Bool := k ∈ [Kind.UNKNOWN_R, .UNKNOWN_I, .UNKNOWN_S, .UNKNOWN_B]

/-- Only the four formats with keys have a placeholder, named after them, and it has the empty metadata. -/
theorem format_and_metaOf_of_isUnknown {i : Instr} (h : i.kind.isUnknown = true) :
    (i.fmt, i.kind.name) ∈ [(Fmt.R, "UNKNOWN_R"), (.I, "UNKNOWN_I"), (.S, "UNKNOWN_S"), (.B, "UNKNOWN_B")] ∧
    metaOf i = mkMeta i.kind.name .none .empty .EX := by
  cases i with
  | unknownR | unknownIOpImm | unknownILoad | unknownIJalr | unknownS | unknownB =>
    exact ⟨by simp [Instr.fmt, Instr.fields, Fields.fmt, Instr.kind, Kind.name], rfl⟩
  | _ => exact absurd h Bool.false_ne_true

/-- Settles O14: the word decodes because its opcode is dispatched, to the kind the resolution gives. -/
theorem unknownWordsDecodeWithEmptyMetadata : Obligations.UnknownWordsDecodeWithEmptyMetadata := by
  intro w fmt hfmt hkind
  obtain ⟨i, hi, rfl⟩ := exists_decode_of_fmtOf hfmt
  have hunknown : i.kind.isUnknown = true := by
    rw [← fields_of_decode hi, ← opcode_of_decode hi, resolveKind_of_wf (wf_of_decode hi)] at hkind
    revert hkind
    cases i.kind <;> decide
  obtain ⟨hname, hmeta⟩ := format_and_metaOf_of_isUnknown hunknown
  exact ⟨i, i.kind.name, hi, fields_of_decode hi, rfl, hname, hmeta⟩

/-! ### The families (R71 to R107) -/

/-! In the statements a key is a bit range of the word; these are the same ranges under their names. -/

/-- `w[31:25]` is the selector of the I immediate (R60). -/
theorem shiftSelector_immIOf (w : Word) : shiftSelector (immIOf w) = funct7Of w := by
  apply BitVec.eq_of_getLsbD_eq
  intro i hi
  simp only [shiftSelector, immIOf, funct7Of, bits, BitVec.getLsbD_extractLsb']
  interval_cases i <;> rfl

/-- Settles O9: the keys of a row are those the decoder of opcode 0x33 tests. -/
theorem registerKindWordsAndMetadata : Obligations.RegisterKindWordsAndMetadata := by
  intro f3 f7 mk name hrow
  simp only [List.mem_cons, Prod.mk.injEq, List.not_mem_nil, or_false] at hrow
  obtain ⟨rfl, rfl, rfl, rfl⟩ | ⟨rfl, rfl, rfl, rfl⟩ | ⟨rfl, rfl, rfl, rfl⟩ | ⟨rfl, rfl, rfl, rfl⟩ |
    ⟨rfl, rfl, rfl, rfl⟩ | ⟨rfl, rfl, rfl, rfl⟩ | ⟨rfl, rfl, rfl, rfl⟩ | ⟨rfl, rfl, rfl, rfl⟩ |
    ⟨rfl, rfl, rfl, rfl⟩ | ⟨rfl, rfl, rfl, rfl⟩ := hrow <;>
  refine ⟨fun w (hopc : opcodeOf w = _) (hf3 : funct3Of w = _) (hf7 : funct7Of w = _) => ?_, fun _ _ _ => rfl⟩ <;>
  rw [decode_op hopc, hf3, hf7] <;> rfl

/-- Settles O10: the shift kinds test the selector, the others `funct3` alone. -/
theorem immediateKindWordsAndMetadata : Obligations.ImmediateKindWordsAndMetadata := by
  intro f3 selector mk name hrow
  simp only [List.mem_cons, Prod.mk.injEq, List.not_mem_nil, or_false] at hrow
  obtain ⟨rfl, rfl, rfl, rfl⟩ | ⟨rfl, rfl, rfl, rfl⟩ | ⟨rfl, rfl, rfl, rfl⟩ | ⟨rfl, rfl, rfl, rfl⟩ |
    ⟨rfl, rfl, rfl, rfl⟩ | ⟨rfl, rfl, rfl, rfl⟩ | ⟨rfl, rfl, rfl, rfl⟩ | ⟨rfl, rfl, rfl, rfl⟩ |
    ⟨rfl, rfl, rfl, rfl⟩ := hrow <;>
  refine ⟨fun w (hopc : opcodeOf w = _) (hf3 : funct3Of w = _) hsel => ?_, fun _ _ _ => rfl⟩ <;>
  rw [decode_opImm hopc, hf3]
  case inr.inr.inr.inr.inr.inr.inl =>
    rw [decodeOpImm_slli _ _ ((shiftSelector_immIOf w).trans (hsel _ rfl))]
    rfl
  case inr.inr.inr.inr.inr.inr.inr.inl =>
    rw [decodeOpImm_srli _ _ ((shiftSelector_immIOf w).trans (hsel _ rfl))]
    rfl
  case inr.inr.inr.inr.inr.inr.inr.inr =>
    rw [decodeOpImm_srai _ _ ((shiftSelector_immIOf w).trans (hsel _ rfl))]
    rfl
  all_goals rfl

/-- Settles O11. -/
theorem loadAndJalrWordsAndMetadata : Obligations.LoadAndJalrWordsAndMetadata := by
  intro opc f3 mk name load hrow
  simp only [List.mem_cons, Prod.mk.injEq, List.not_mem_nil, or_false] at hrow
  obtain ⟨rfl, rfl, rfl, rfl, rfl⟩ | ⟨rfl, rfl, rfl, rfl, rfl⟩ | ⟨rfl, rfl, rfl, rfl, rfl⟩ |
    ⟨rfl, rfl, rfl, rfl, rfl⟩ | ⟨rfl, rfl, rfl, rfl, rfl⟩ | ⟨rfl, rfl, rfl, rfl, rfl⟩ := hrow <;>
  refine ⟨fun w (hopc : opcodeOf w = _) (hf3 : funct3Of w = _) => ?_, fun _ _ _ => rfl⟩
  case inr.inr.inr.inr.inr =>
    rw [decode_jalr hopc, hf3]
    rfl
  all_goals
    rw [decode_load hopc, hf3]
    rfl

/-- Settles O12. -/
theorem storeAndBranchWordsAndMetadata : Obligations.StoreAndBranchWordsAndMetadata := by
  constructor
  · intro f3 mk name hrow
    simp only [List.mem_cons, Prod.mk.injEq, List.not_mem_nil, or_false] at hrow
    obtain ⟨rfl, rfl, rfl⟩ | ⟨rfl, rfl, rfl⟩ | ⟨rfl, rfl, rfl⟩ := hrow <;>
    refine ⟨fun w (hopc : opcodeOf w = _) (hf3 : funct3Of w = _) => ?_, fun _ _ _ => rfl⟩ <;>
    rw [decode_store hopc, hf3] <;> rfl
  · intro f3 mk name hrow
    simp only [List.mem_cons, Prod.mk.injEq, List.not_mem_nil, or_false] at hrow
    obtain ⟨rfl, rfl, rfl⟩ | ⟨rfl, rfl, rfl⟩ | ⟨rfl, rfl, rfl⟩ | ⟨rfl, rfl, rfl⟩ | ⟨rfl, rfl, rfl⟩ |
      ⟨rfl, rfl, rfl⟩ := hrow <;>
    refine ⟨fun w (hopc : opcodeOf w = _) (hf3 : funct3Of w = _) => ?_, fun _ _ _ => rfl⟩ <;>
    rw [decode_branch hopc, hf3] <;> rfl

/-- Settles O13. -/
theorem upperAndJalWordsAndMetadata : Obligations.UpperAndJalWordsAndMetadata :=
  ⟨fun _ h => decode_lui h, fun _ h => decode_auipc h, fun _ h => decode_jal h,
    fun _ => ⟨fun _ => rfl, fun _ => rfl, fun _ => rfl⟩⟩

/-- Settles O16: the loads alone produce in MEM. -/
theorem stagesOfTheMetadataTable : Obligations.StagesOfTheMetadataTable :=
  ⟨fun i => by cases i <;> exact ⟨rfl, rfl⟩, rfl, rfl⟩

/-- Settles O8: the decoder computes. -/
theorem exampleWordsDecode : Obligations.ExampleWordsDecode := by
  unfold Obligations.ExampleWordsDecode
  decide

/-! ### The opcode table -/

/-! A mask of the table leaves a word the word of its keys. -/

section
variable (w : Word)

theorem and_opcodeMask : w &&& 0x0000007F#32 = encodeU 0#20 0#5 (opcodeOf w) := by
  apply BitVec.eq_of_getLsbD_eq
  intro i hi
  simp only [encodeU, opcodeOf, bits, BitVec.getLsbD_and, BitVec.getLsbD_append, BitVec.getLsbD_extractLsb']
  interval_cases i <;> simp

theorem and_funct3Mask : w &&& 0x0000707F#32 = encodeI 0#12 0#5 (funct3Of w) 0#5 (opcodeOf w) := by
  apply BitVec.eq_of_getLsbD_eq
  intro i hi
  simp only [encodeI, opcodeOf, funct3Of, bits, BitVec.getLsbD_and, BitVec.getLsbD_append,
    BitVec.getLsbD_extractLsb']
  interval_cases i <;> simp

theorem and_funct7Mask :
    w &&& 0xFE00707F#32 = encodeR (funct7Of w) 0#5 0#5 (funct3Of w) 0#5 (opcodeOf w) := by
  apply BitVec.eq_of_getLsbD_eq
  intro i hi
  simp only [encodeR, opcodeOf, funct3Of, funct7Of, bits, BitVec.getLsbD_and, BitVec.getLsbD_append,
    BitVec.getLsbD_extractLsb']
  interval_cases i <;> simp

end

/-- The row of a kind that the opcode alone selects. -/
def OpcodeRow.ofOpcode (k : Kind) (opc : Opcode) : OpcodeRow :=
  { kind := k, mask := 0x0000007F#32, pattern := encodeU 0#20 0#5 opc }

/-- The row of a kind that the opcode and `funct3` select. -/
def OpcodeRow.ofFunct3 (k : Kind) (opc : Opcode) (f3 : Funct3) : OpcodeRow :=
  { kind := k, mask := 0x0000707F#32, pattern := encodeI 0#12 0#5 f3 0#5 opc }

/-- The row of a kind that the opcode, `funct3` and `funct7` (or the selector) select. -/
def OpcodeRow.ofFunct7 (k : Kind) (opc : Opcode) (f3 : Funct3) (f7 : Funct7) : OpcodeRow :=
  { kind := k, mask := 0xFE00707F#32, pattern := encodeR f7 0#5 0#5 f3 0#5 opc }

section
variable {k : Kind} {opc : Opcode} {f3 : Funct3} {f7 : Funct7} {w : Word}

theorem OpcodeRow.hits_ofOpcode : (OpcodeRow.ofOpcode k opc).hits w = true ↔ opcodeOf w = opc := by
  rw [OpcodeRow.hits, OpcodeRow.ofOpcode, beq_iff_eq, and_opcodeMask]
  refine ⟨fun h => ?_, fun h => h ▸ rfl⟩
  simpa [(fields_encodeU _ _ _).1] using congrArg opcodeOf h

theorem OpcodeRow.hits_ofFunct3 :
    (OpcodeRow.ofFunct3 k opc f3).hits w = true ↔ opcodeOf w = opc ∧ funct3Of w = f3 := by
  rw [OpcodeRow.hits, OpcodeRow.ofFunct3, beq_iff_eq, and_funct3Mask]
  refine ⟨fun h => ⟨?_, ?_⟩, fun ⟨h1, h2⟩ => h1 ▸ h2 ▸ rfl⟩
  · simpa [(fields_encodeI _ _ _ _ _).1] using congrArg opcodeOf h
  · simpa [(fields_encodeI _ _ _ _ _).2.2.1] using congrArg funct3Of h

theorem OpcodeRow.hits_ofFunct7 :
    (OpcodeRow.ofFunct7 k opc f3 f7).hits w = true ↔ opcodeOf w = opc ∧ funct3Of w = f3 ∧ funct7Of w = f7 := by
  rw [OpcodeRow.hits, OpcodeRow.ofFunct7, beq_iff_eq, and_funct7Mask]
  refine ⟨fun h => ⟨?_, ?_, ?_⟩, fun ⟨h1, h2, h3⟩ => h1 ▸ h2 ▸ h3 ▸ rfl⟩
  · simpa [(fields_encodeR _ _ _ _ _ _).1] using congrArg opcodeOf h
  · simpa [(fields_encodeR _ _ _ _ _ _).2.2.1] using congrArg funct3Of h
  · simpa [(fields_encodeR _ _ _ _ _ _).2.2.2.2.2] using congrArg funct7Of h

end

/-! The rows by their keys. -/

theorem rRows_eq : rRows =
    [.ofFunct7 .ADD 0x33#7 0#3 0x00#7, .ofFunct7 .SUB 0x33#7 0#3 0x20#7, .ofFunct7 .SLL 0x33#7 1#3 0x00#7,
      .ofFunct7 .SLT 0x33#7 2#3 0x00#7, .ofFunct7 .SLTU 0x33#7 3#3 0x00#7, .ofFunct7 .XOR 0x33#7 4#3 0x00#7,
      .ofFunct7 .SRL 0x33#7 5#3 0x00#7, .ofFunct7 .SRA 0x33#7 5#3 0x20#7, .ofFunct7 .OR 0x33#7 6#3 0x00#7,
      .ofFunct7 .AND 0x33#7 7#3 0x00#7] := by decide

theorem iRows_eq : iRows =
    [.ofFunct3 .ADDI 0x13#7 0#3, .ofFunct3 .SLTI 0x13#7 2#3, .ofFunct3 .SLTIU 0x13#7 3#3, .ofFunct3 .XORI 0x13#7 4#3,
      .ofFunct3 .ORI 0x13#7 6#3, .ofFunct3 .ANDI 0x13#7 7#3, .ofFunct7 .SLLI 0x13#7 1#3 0x00#7,
      .ofFunct7 .SRLI 0x13#7 5#3 0x00#7, .ofFunct7 .SRAI 0x13#7 5#3 0x20#7, .ofFunct3 .LB 0x03#7 0#3,
      .ofFunct3 .LH 0x03#7 1#3, .ofFunct3 .LW 0x03#7 2#3, .ofFunct3 .LBU 0x03#7 4#3, .ofFunct3 .LHU 0x03#7 5#3,
      .ofFunct3 .JALR 0x67#7 0#3] := by decide

theorem sbujRows_eq : sbujRows =
    [.ofFunct3 .SB 0x23#7 0#3, .ofFunct3 .SH 0x23#7 1#3, .ofFunct3 .SW 0x23#7 2#3, .ofFunct3 .BEQ 0x63#7 0#3,
      .ofFunct3 .BNE 0x63#7 1#3, .ofFunct3 .BLT 0x63#7 4#3, .ofFunct3 .BGE 0x63#7 5#3, .ofFunct3 .BLTU 0x63#7 6#3,
      .ofFunct3 .BGEU 0x63#7 7#3, .ofOpcode .LUI 0x37#7, .ofOpcode .AUIPC 0x17#7, .ofOpcode .JAL 0x6F#7] := by decide

theorem unknownRows_eq : unknownRows =
    [.ofOpcode .UNKNOWN_R 0x33#7, .ofOpcode .UNKNOWN_I 0x13#7, .ofOpcode .UNKNOWN_I 0x03#7,
      .ofOpcode .UNKNOWN_I 0x67#7, .ofOpcode .UNKNOWN_S 0x23#7, .ofOpcode .UNKNOWN_B 0x63#7] := by decide

/-! A word of a kind row decodes to the row's kind. -/

section
variable {row : OpcodeRow} {w : Word}

theorem exists_decode_of_mem_rRows (hrow : row ∈ rRows) (h : row.hits w = true) :
    ∃ i, decode w = .instr i ∧ i.kind = row.kind := by
  simp only [rRows_eq, List.mem_cons, List.not_mem_nil, or_false] at hrow
  obtain rfl | rfl | rfl | rfl | rfl | rfl | rfl | rfl | rfl | rfl := hrow <;>
  obtain ⟨hopc, hf3, hf7⟩ := OpcodeRow.hits_ofFunct7.mp h <;>
  refine ⟨_, decode_op hopc, ?_⟩ <;> rw [hf3, hf7] <;> rfl

theorem exists_decode_of_mem_iRows (hrow : row ∈ iRows) (h : row.hits w = true) :
    ∃ i, decode w = .instr i ∧ i.kind = row.kind := by
  simp only [iRows_eq, List.mem_cons, List.not_mem_nil, or_false] at hrow
  obtain hopImm | hshift | hload | rfl :
      (row = _ ∨ row = _ ∨ row = _ ∨ row = _ ∨ row = _ ∨ row = _) ∨ (row = _ ∨ row = _ ∨ row = _) ∨
      (row = _ ∨ row = _ ∨ row = _ ∨ row = _ ∨ row = _) ∨ row = _ := by
    simpa only [or_assoc] using hrow
  · obtain rfl | rfl | rfl | rfl | rfl | rfl := hopImm <;>
    obtain ⟨hopc, hf3⟩ := OpcodeRow.hits_ofFunct3.mp h <;>
    refine ⟨_, decode_opImm hopc, ?_⟩ <;> rw [hf3] <;> rfl
  · obtain rfl | rfl | rfl := hshift <;>
    obtain ⟨hopc, hf3, hf7⟩ := OpcodeRow.hits_ofFunct7.mp h <;>
    refine ⟨_, decode_opImm hopc, ?_⟩ <;> rw [← shiftSelector_immIOf] at hf7 <;> rw [hf3]
    · rw [decodeOpImm_slli _ _ hf7]
      rfl
    · rw [decodeOpImm_srli _ _ hf7]
      rfl
    · rw [decodeOpImm_srai _ _ hf7]
      rfl
  · obtain rfl | rfl | rfl | rfl | rfl := hload <;>
    obtain ⟨hopc, hf3⟩ := OpcodeRow.hits_ofFunct3.mp h <;>
    refine ⟨_, decode_load hopc, ?_⟩ <;> rw [hf3] <;> rfl
  · obtain ⟨hopc, hf3⟩ := OpcodeRow.hits_ofFunct3.mp h
    refine ⟨_, decode_jalr hopc, ?_⟩
    rw [hf3]
    rfl

theorem exists_decode_of_mem_sbujRows (hrow : row ∈ sbujRows) (h : row.hits w = true) :
    ∃ i, decode w = .instr i ∧ i.kind = row.kind := by
  simp only [sbujRows_eq, List.mem_cons, List.not_mem_nil, or_false] at hrow
  obtain hstore | hbranch | rfl | rfl | rfl :
      (row = _ ∨ row = _ ∨ row = _) ∨ (row = _ ∨ row = _ ∨ row = _ ∨ row = _ ∨ row = _ ∨ row = _) ∨
      row = _ ∨ row = _ ∨ row = _ := by
    simpa only [or_assoc] using hrow
  · obtain rfl | rfl | rfl := hstore <;>
    obtain ⟨hopc, hf3⟩ := OpcodeRow.hits_ofFunct3.mp h <;>
    refine ⟨_, decode_store hopc, ?_⟩ <;> rw [hf3] <;> rfl
  · obtain rfl | rfl | rfl | rfl | rfl | rfl := hbranch <;>
    obtain ⟨hopc, hf3⟩ := OpcodeRow.hits_ofFunct3.mp h <;>
    refine ⟨_, decode_branch hopc, ?_⟩ <;> rw [hf3] <;> rfl
  · exact ⟨_, decode_lui (OpcodeRow.hits_ofOpcode.mp h), rfl⟩
  · exact ⟨_, decode_auipc (OpcodeRow.hits_ofOpcode.mp h), rfl⟩
  · exact ⟨_, decode_jal (OpcodeRow.hits_ofOpcode.mp h), rfl⟩

theorem exists_decode_of_mem_kindRows (hrow : row ∈ kindRows) (h : row.hits w = true) :
    ∃ i, decode w = .instr i ∧ i.kind = row.kind := by
  rw [kindRows, List.mem_append, List.mem_append] at hrow
  obtain (hr | hi) | hs := hrow
  · exact exists_decode_of_mem_rRows hr h
  · exact exists_decode_of_mem_iRows hi h
  · exact exists_decode_of_mem_sbujRows hs h

end

/-- Settles O7: a word of two rows would decode to both kinds, and the rows' kinds are distinct. -/
theorem kindRowsAreDisjoint : Obligations.KindRowsAreDisjoint := by
  have hkinds : (kindRows.map OpcodeRow.kind).Nodup := by decide
  refine (List.pairwise_map.mp hkinds).imp_of_mem fun {a b} ha hb hne w ⟨hwa, hwb⟩ => hne ?_
  obtain ⟨i, hi, hka⟩ := exists_decode_of_mem_kindRows ha hwa
  obtain ⟨j, hj, hkb⟩ := exists_decode_of_mem_kindRows hb hwb
  obtain rfl : i = j := Decoded.instr.inj (hi.symm.trans hj)
  exact hka.symm.trans hkb

/-! Conversely, the word of an instruction of a recognised kind is of a kind row. -/

/-- The kind row of an instruction of a recognised kind, by the keys its kind is selected by. -/
def Instr.kindRow (i : Instr) : OpcodeRow :=
  match i.fields with
  | .r _ f3 _ _ f7 => .ofFunct7 i.kind i.opcode f3 f7
  | .i _ f3 _ imm =>
    if i.kind = .SLLI ∨ i.kind = .SRLI ∨ i.kind = .SRAI then .ofFunct7 i.kind i.opcode f3 (shiftSelector imm)
    else .ofFunct3 i.kind i.opcode f3
  | .s f3 _ _ _ => .ofFunct3 i.kind i.opcode f3
  | .b f3 _ _ _ => .ofFunct3 i.kind i.opcode f3
  | .u _ _ => .ofOpcode i.kind i.opcode
  | .j _ _ => .ofOpcode i.kind i.opcode

theorem kindRow_hits_of_decode {w : Word} {i : Instr} (h : decode w = .instr i) : i.kindRow.hits w = true := by
  have hopc := (opcode_of_decode h).symm
  unfold Instr.kindRow
  rw [fields_of_decode h]
  cases i.fmt with
  | R => exact OpcodeRow.hits_ofFunct7.mpr ⟨hopc, rfl, rfl⟩
  | I =>
    simp only [fieldsOf]
    split_ifs
    · exact OpcodeRow.hits_ofFunct7.mpr ⟨hopc, rfl, (shiftSelector_immIOf w).symm⟩
    · exact OpcodeRow.hits_ofFunct3.mpr ⟨hopc, rfl⟩
  | S | B => exact OpcodeRow.hits_ofFunct3.mpr ⟨hopc, rfl⟩
  | U | J => exact OpcodeRow.hits_ofOpcode.mpr hopc

theorem kindRow_mem {i : Instr} (h : i.wf = true) (hk : i.kind.isUnknown = false) : i.kindRow ∈ kindRows := by
  cases i with
  | unknownR | unknownIOpImm | unknownILoad | unknownIJalr | unknownS | unknownB =>
    exact absurd hk.symm Bool.false_ne_true
  | slli rd rs1 imm =>
    change OpcodeRow.ofFunct7 .SLLI 0x13#7 1#3 (shiftSelector imm) ∈ kindRows
    rw [eq_of_beq h]
    decide
  | srli rd rs1 imm =>
    change OpcodeRow.ofFunct7 .SRLI 0x13#7 5#3 (shiftSelector imm) ∈ kindRows
    rw [eq_of_beq h]
    decide
  | srai rd rs1 imm =>
    change OpcodeRow.ofFunct7 .SRAI 0x13#7 5#3 (shiftSelector imm) ∈ kindRows
    rw [eq_of_beq h]
    decide
  | _ => simp [Instr.kindRow, Instr.fields, Instr.kind, Instr.opcode, kindRows, rRows_eq, iRows_eq, sbujRows_eq]

/-- A word of a fallback row has a dispatched opcode (R63). -/
theorem fmtOf_of_mem_unknownRows {row : OpcodeRow} {w : Word} (hrow : row ∈ unknownRows) (h : row.hits w = true) :
    fmtOf (opcodeOf w) ≠ none := by
  simp only [unknownRows_eq, List.mem_cons, List.not_mem_nil, or_false] at hrow
  obtain rfl | rfl | rfl | rfl | rfl | rfl := hrow <;> rw [OpcodeRow.hits_ofOpcode.mp h] <;> decide

/-- The first fallback row that hits the word of a placeholder is that of its opcode (R63). -/
theorem find?_unknownRows_of_isUnknown {w : Word} {i : Instr} (h : i.kind.isUnknown = true)
    (hopc : opcodeOf w = i.opcode) : unknownRows.find? (·.hits w) = some (.ofOpcode i.kind i.opcode) := by
  have hhits (k : Kind) (opc : Opcode) : (OpcodeRow.ofOpcode k opc).hits w = decide (i.opcode = opc) := by
    rw [Bool.eq_iff_iff, OpcodeRow.hits_ofOpcode, decide_eq_true_iff, hopc]
  cases i with
  | unknownR | unknownIOpImm | unknownILoad | unknownIJalr | unknownS | unknownB =>
    simp [unknownRows_eq, hhits, Instr.opcode, Instr.kind]
  | _ => exact absurd h Bool.false_ne_true

/-- Settles O6: a recognised kind is that of any row that hits; a placeholder is hit by no kind row; a word that does
not decode is hit by no row. -/
theorem decodeAgreesWithTheOpcodeTable : Obligations.DecodeAgreesWithTheOpcodeTable := by
  intro w
  rw [tableKind]
  cases hfind : kindRows.find? (·.hits w) with
  | some row =>
    have hhit : row.hits w = true := List.find?_some (p := fun r : OpcodeRow => r.hits w) hfind
    obtain ⟨i, hi, hk⟩ := exists_decode_of_mem_kindRows (List.mem_of_find?_eq_some hfind) hhit
    rw [hi]
    exact congrArg some hk
  | none =>
    have hnone : ∀ row ∈ kindRows, ¬row.hits w = true := List.find?_eq_none.mp hfind
    cases hw : decode w with
    | instr i =>
      have hunknown : i.kind.isUnknown = true := by
        by_contra hk
        exact hnone _ (kindRow_mem (wf_of_decode hw) (by simpa using hk)) (kindRow_hits_of_decode hw)
      rw [Option.orElse_none, find?_unknownRows_of_isUnknown hunknown (opcode_of_decode hw).symm]
      rfl
    | failure opc =>
      have hfail : unknownRows.find? (·.hits w) = none := List.find?_eq_none.mpr fun row hrow hhit =>
        fmtOf_of_mem_unknownRows hrow hhit (decode_eq_failure_iff.mp hw).1
      rw [Option.orElse_none, hfail]
      rfl

end Sys2Proof
end

section
/-! PROOFS. The hazard detector and the turn of an instruction, in every state (R63, R64, R71 to R107, R128 to R140). The
comparators are read as the formulas of the rules; a turn is the arbitration with the instruction's metadata, so every
statement about turns is one about the metadata. -/

namespace Sys2Proof.Machine

/-! ### The comparators as formulas (R129 to R134) -/

theorem cyclesToProduce_eq (fwd : Bool) (m : InstructionMeta) (st : Stage) :
    cyclesToProduce fwd m st = (if fwd then m.produceStage.ordinal else 5) - st.ordinal := by
  cases fwd <;> rfl

theorem rawOn_iff {P : Params} {fwd : Bool} {c : InstructionMeta} {st : Stage} {p : Entry} {r : Reg} :
    rawOn P fwd c st p r = true ↔
      p.hasStarted = true ∧ p.hasCompleted = false ∧ p.metadata.writesRegister = true ∧ p.metadata.destReg = some r ∧
      ¬(P.x0Exempt = true ∧ r = 0#5) ∧ 0 ≤ cyclesToConsume c st ∧ 0 ≤ cyclesToProduce fwd p.metadata p.currentStage ∧
      later P.cmp (cyclesToProduce fwd p.metadata p.currentStage) (cyclesToConsume c st) = true := by
  simp [rawOn, and_assoc, imp_iff_not_or]

theorem warOn_iff {P : Params} {fwd : Bool} {c : InstructionMeta} {st : Stage} {p : Entry} {d : Reg} :
    warOn P fwd c st p d = true ↔
      p.hasStarted = true ∧ p.hasCompleted = false ∧ p.metadata.readsRegister = true ∧
      d ∈ p.metadata.sourceRegs.toList ∧ ¬(P.x0Exempt = true ∧ d = 0#5) ∧
      0 ≤ cyclesToConsume p.metadata p.currentStage ∧ 0 ≤ cyclesToProduce fwd c st ∧
      notLater P.cmp (cyclesToProduce fwd c st) (cyclesToConsume p.metadata p.currentStage) = true := by
  simp [warOn, and_assoc, imp_iff_not_or]

/-- Settles O17. -/
theorem rawComparatorFormula : Obligations.RawComparatorFormula := by
  intro P fwd l c st
  simp only [raw_iff, rawOn_iff, cyclesToProduce_eq, cyclesToConsume]
  cases P.cmp <;> simp only [later, decide_eq_true_iff]

theorem war_iff_exists {P : Params} {fwd : Bool} {l : List Entry} {c : InstructionMeta} {st : Stage} :
    war P fwd l c st = true ↔ ∃ p ∈ l, ∃ d, c.destReg = some d ∧ warOn P fwd c st p d = true :=
  war_iff.trans ⟨fun ⟨d, hd, p, hp, h⟩ => ⟨p, hp, d, hd, h⟩, fun ⟨p, hp, d, hd, h⟩ => ⟨d, hd, p, hp, h⟩⟩

/-- Settles O18: WAR takes the two roles the other way round, and control asks for a stage up to EX (D13). -/
theorem warAndControlComparatorFormulas : Obligations.WarAndControlComparatorFormulas := by
  constructor
  · intro P fwd l c st
    simp only [war_iff_exists, warOn_iff, cyclesToProduce_eq, cyclesToConsume]
    cases P.cmp <;> simp only [notLater, decide_eq_true_iff]
  · intro l c
    simp only [ctrl_iff, InstructionMeta.isControl, Bool.or_eq_true]
    rfl

/-! ### What the detector reads of the in-flight set (R128) -/

/-- The detector asks of each in-flight entry whether it alone blocks the candidate. -/
theorem blockedBy_iff_exists {P : Params} {cfg : Cfg} {l : List Entry} {c : InstructionMeta} {st : Stage} :
    blockedBy P cfg l c st = true ↔ ∃ p ∈ l, blockedBy P cfg [p] c st = true := by
  simp only [blockedBy_iff, raw_iff, war_iff, ctrl_iff, List.mem_singleton, exists_eq_left]
  constructor
  · rintro (⟨hd, ⟨he, p, hp, h⟩ | ⟨d, hd', p, hp, h⟩⟩ | ⟨hc, hcc, p, hp, h⟩)
    · exact ⟨p, hp, .inl ⟨hd, .inl ⟨he, h⟩⟩⟩
    · exact ⟨p, hp, .inl ⟨hd, .inr ⟨d, hd', h⟩⟩⟩
    · exact ⟨p, hp, .inr ⟨hc, hcc, h⟩⟩
  · rintro ⟨p, hp, ⟨hd, ⟨he, h⟩ | ⟨d, hd', h⟩⟩ | ⟨hc, hcc, h⟩⟩
    · exact .inl ⟨hd, .inl ⟨he, p, hp, h⟩⟩
    · exact .inl ⟨hd, .inr ⟨d, hd', p, hp, h⟩⟩
    · exact .inr ⟨hc, hcc, p, hp, h⟩

@[simp] theorem blockedBy_nil (P : Params) (cfg : Cfg) (c : InstructionMeta) (st : Stage) :
    blockedBy P cfg [] c st = false := by
  rw [← Bool.not_eq_true, blockedBy_iff_exists]
  simp

theorem blockedBy_cons (P : Params) (cfg : Cfg) (p : Entry) (l : List Entry) (c : InstructionMeta) (st : Stage) :
    blockedBy P cfg (p :: l) c st = (blockedBy P cfg [p] c st || blockedBy P cfg l c st) := by
  rw [Bool.eq_iff_iff, Bool.or_eq_true, blockedBy_iff_exists, blockedBy_iff_exists (l := l)]
  simp only [List.mem_cons, exists_eq_or_imp]

/-- Settles O21: permuted lists have the same members. -/
theorem inFlightOrderIsIrrelevant : Obligations.InFlightOrderIsIrrelevant := by
  intro P cfg l₁ l₂ c st h
  rw [Bool.eq_iff_iff, blockedBy_iff_exists, blockedBy_iff_exists]
  simp only [h.mem_iff]

/-! ### The metadata without register effects (R64, R126) -/

/-- A meta with no source, no destination and no control flag. -/
structure Inert (m : InstructionMeta) : Prop where
  sources : m.sourceRegs = .none
  dest : m.destReg = none
  control : m.isControl = false

theorem inert_bubbleMeta : Inert bubbleMeta := ⟨rfl, rfl, rfl⟩

theorem inert_metaOf {i : Instr} (h : i.kind.isUnknown = true) : Inert (metaOf i) := by
  rw [(format_and_metaOf_of_isUnknown h).2]
  exact ⟨rfl, rfl, rfl⟩

theorem Inert.not_blocked {m : InstructionMeta} (h : Inert m) (P : Params) (cfg : Cfg) (l : List Entry) (st : Stage) :
    blockedBy P cfg l m st = false := by
  obtain ⟨hsources, hdest, hcontrol⟩ := h
  rw [← Bool.not_eq_true, blockedBy_iff, raw_iff, war_iff, ctrl_iff]
  simp [hsources, hdest, hcontrol, SourceRegs.toList]

theorem Inert.blocks_nothing {p : Entry} (h : Inert p.metadata) (P : Params) (cfg : Cfg) (c : InstructionMeta)
    (st : Stage) : blockedBy P cfg [p] c st = false := by
  obtain ⟨hsources, hdest, hcontrol⟩ := h
  rw [← Bool.not_eq_true, blockedBy_iff, raw_iff, war_iff, ctrl_iff]
  simp [rawOn, warOn, hsources, hdest, hcontrol, SourceRegs.toList]

/-- Settles O22: such a meta takes no part on either side. -/
theorem unknownAndBubbleTakeNoPart : Obligations.UnknownAndBubbleTakeNoPart := by
  intro m hm
  have hinert : Inert m := by
    obtain rfl | ⟨i, hk, rfl⟩ := hm
    · exact inert_bubbleMeta
    · exact inert_metaOf (decide_eq_true hk)
  refine ⟨hinert.not_blocked, fun P cfg l p c st hp => ?_⟩
  rw [blockedBy_cons, Inert.blocks_nothing (hp ▸ hinert), Bool.false_or]

/-! ### The turn of an instruction (R138 to R140) -/

section
variable {m : InstructionMeta} {s : State} {c : Cut}

theorem arbitrate_of_no_candidate (hc : s.candidate? = none) : arbitrate m s = .next s := by
  simp [arbitrate, hc]

theorem arbitrate_of_not_blocked (hc : s.candidate? = some c) (hb : s.blocked m c.cand.currentStage = false) :
    arbitrate m s = .next (s.enter c) := by
  simp [arbitrate, hc, hb]

theorem arbitrate_of_blocked (hc : s.candidate? = some c) (hb : s.blocked m c.cand.currentStage = true)
    (hfits : Params.fits s.params (s.seq.length + 1) = true) : arbitrate m s = .next (s.insertBubble c) := by
  simp [arbitrate, hc, hb, hfits]

theorem arbitrate_of_no_room (hc : s.candidate? = some c) (hb : s.blocked m c.cand.currentStage = true)
    (hfits : Params.fits s.params (s.seq.length + 1) = false) : arbitrate m s = .refused .pcOutOfRange := by
  simp [arbitrate, hc, hb, hfits]

end

/-- There is room for one slot more than `n` when its offset is below 2^32 (R39). -/
theorem fits_succ_iff {P : Params} {n : Nat} : Params.fits P (n + 1) = true ↔ P.basePC.toNat + 4 * n < 2 ^ 32 := by
  rw [fits_iff]
  simp

/-- Every instruction takes the turn of its own metadata. -/
theorem takesTurn_metaOf (i : Instr) : TakesTurn i (metaOf i) := by
  intro s
  rw [exec_eq]
  refine ⟨arbitrate_of_no_candidate, fun c hc => ⟨arbitrate_of_not_blocked hc, fun hb hroom => ?_, fun hb hroom => ?_⟩⟩
  · exact arbitrate_of_blocked hc hb (fits_succ_iff.mpr hroom)
  · refine arbitrate_of_no_room hc hb ?_
    rw [← Bool.not_eq_true, fits_succ_iff]
    omega

/-- Settles O24. -/
theorem registerKindsTakeTheirTurn : Obligations.RegisterKindsTakeTheirTurn := fun _ _ _ =>
  ⟨takesTurn_metaOf _, takesTurn_metaOf _, takesTurn_metaOf _, takesTurn_metaOf _, takesTurn_metaOf _,
    takesTurn_metaOf _, takesTurn_metaOf _, takesTurn_metaOf _, takesTurn_metaOf _, takesTurn_metaOf _⟩

/-- Settles O25. -/
theorem immediateKindsTakeTheirTurn : Obligations.ImmediateKindsTakeTheirTurn := fun _ _ _ =>
  ⟨takesTurn_metaOf _, takesTurn_metaOf _, takesTurn_metaOf _, takesTurn_metaOf _, takesTurn_metaOf _,
    takesTurn_metaOf _, takesTurn_metaOf _, takesTurn_metaOf _, takesTurn_metaOf _⟩

/-- Settles O26. -/
theorem loadsTakeTheirTurn : Obligations.LoadsTakeTheirTurn := fun _ _ _ =>
  ⟨takesTurn_metaOf _, takesTurn_metaOf _, takesTurn_metaOf _, takesTurn_metaOf _, takesTurn_metaOf _⟩

/-- Settles O27. -/
theorem storesTakeTheirTurn : Obligations.StoresTakeTheirTurn := fun _ _ _ =>
  ⟨takesTurn_metaOf _, takesTurn_metaOf _, takesTurn_metaOf _⟩

/-- Settles O28. -/
theorem branchesTakeTheirTurn : Obligations.BranchesTakeTheirTurn := fun _ _ _ =>
  ⟨takesTurn_metaOf _, takesTurn_metaOf _, takesTurn_metaOf _, takesTurn_metaOf _, takesTurn_metaOf _,
    takesTurn_metaOf _⟩

/-- Settles O29. -/
theorem upperKindsAndJumpsTakeTheirTurn : Obligations.UpperKindsAndJumpsTakeTheirTurn := fun _ _ =>
  ⟨fun _ => takesTurn_metaOf _, fun _ => takesTurn_metaOf _, fun _ => takesTurn_metaOf _, fun _ => takesTurn_metaOf _⟩

theorem exec_of_isUnknown {i : Instr} {s : State} {c : Cut} (h : i.kind.isUnknown = true)
    (hc : s.candidate? = some c) : exec i s = .next (s.admitted c) :=
  ((takesTurn_metaOf i s).2 c hc).1 ((inert_metaOf h).not_blocked ..)

/-- Settles O30: nothing blocks a meta without register effects. -/
theorem unknownKindsAreAlwaysAdmitted : Obligations.UnknownKindsAreAlwaysAdmitted := fun _ _ hc _ _ _ _ _ _ =>
  ⟨exec_of_isUnknown rfl hc, exec_of_isUnknown rfl hc, exec_of_isUnknown rfl hc, exec_of_isUnknown rfl hc,
    exec_of_isUnknown rfl hc, fun _ => exec_of_isUnknown rfl hc⟩

/-- Settles O31: an empty in-flight set blocks nothing. -/
theorem admittedWhenNothingIsInFlight : Obligations.AdmittedWhenNothingIsInFlight := by
  intro i s c hc hempty
  refine ((takesTurn_metaOf i s).2 c hc).1 ?_
  rw [State.blocked, hempty, blockedBy_nil]

/-- The arbitration does not read the display name. -/
theorem arbitrate_forget_name (m : InstructionMeta) (s : State) : arbitrate m s = arbitrate { m with name := "" } s :=
  rfl

/-- Settles O32. -/
theorem onlyTheMetadataMatters : Obligations.OnlyTheMetadataMatters := by
  intro i j s h
  rw [exec_eq, exec_eq, arbitrate_forget_name, h, ← arbitrate_forget_name]

/-- The turn's two changes of the sequence keep the real identities (R25). -/
theorem realIdentities_enter {s : State} {c : Cut} (hc : s.candidate? = some c) :
    (s.enter c).realIdentities = s.realIdentities := by
  rw [State.realIdentities_eq_filter, State.realIdentities_eq_filter, State.identities_enter hc]

theorem realIdentities_insertBubble {s : State} {c : Cut} (hc : s.candidate? = some c) :
    (s.insertBubble c).realIdentities = s.realIdentities := by
  rw [State.realIdentities_eq_filter, State.realIdentities_eq_filter, State.identities_insertBubble,
    State.identities_of_candidate hc]
  simp

/-- Settles O33: the three answers of the arbitration, each written out on the sequence. -/
theorem turnLeavesTheRestUnchanged : Obligations.TurnLeavesTheRestUnchanged := by
  intro i s t h
  rw [exec_eq] at h
  obtain ⟨hn, rfl⟩ | ⟨c, hc, -, rfl⟩ | ⟨c, hc, -, -, rfl⟩ := arbitrate_next h
  · exact ⟨rfl, rfl, rfl, rfl, fun _ => rfl, fun c hc => by simp [hn] at hc⟩
  · refine ⟨rfl, rfl, rfl, realIdentities_enter hc, fun hn => by simp [hn] at hc, fun d hd => ?_⟩
    obtain rfl : c = d := Option.some.inj (hc.symm.trans hd)
    obtain ⟨hseq, -, -⟩ := cutAtCandidate_some hc
    exact ⟨by simp, .inl ⟨by simp [hseq], by simp⟩⟩
  · refine ⟨rfl, rfl, rfl, realIdentities_insertBubble hc, fun hn => by simp [hn] at hc, fun d hd => ?_⟩
    obtain rfl : c = d := Option.some.inj (hc.symm.trans hd)
    obtain ⟨hseq, -, -⟩ := cutAtCandidate_some hc
    refine ⟨by simp, .inr ⟨by simp [hseq, Nat.add_assoc], ?_⟩⟩
    simp [Function.comp_def]

end Sys2Proof.Machine
end

section
/-! PROOFS. A step in every state, good or not (R24, R27, R37, R110, R116, R136, R151): which outcome it has, what it leaves
unchanged, and the life cycles and the slot numbering it keeps; and the placing of words before a run (R28, R34, R36,
R65, R122, R154). -/

namespace Sys2Proof.Machine

/-! ### The outcomes of a step (R108, R110, R136) -/

section
variable {s t : State}

theorem step_of_refusal {r : Refusal} (h : s.refusal? = some r) : step s = .refused r := by
  simp [step, clockEdge, h]

theorem step_of_done (hr : s.refusal? = none) (hd : s.done = true) : step s = .next s := by
  simp [step, clockEdge, hr, hd]

theorem step_of_running (hr : s.refusal? = none) (hd : s.done = false) : step s = dropOutcome (issue s.advanced) := by
  simp [step, clockEdge, engineStep, hr, hd]

theorem issue_of_real {c : Cut} {i : Instr} (hc : s.candidate? = some c) (hb : c.cand.body = .real i) :
    issue s = exec i s := by
  simp [issue, hc, hb]

theorem issue_of_no_candidate (hc : s.candidate? = none) : issue s = .next s := by
  simp [issue, hc]

/-- Settles O34: the candidate's instruction between sub-steps 1 and 4. -/
theorem stepRunsTheCandidate : Obligations.StepRunsTheCandidate := by
  refine fun s hr hd => ⟨fun c i hc hb => ?_, fun hc => ?_⟩
  · rw [step_of_running hr hd, issue_of_real hc hb]
    cases exec i s.advanced <;> rfl
  · rw [step_of_running hr hd, issue_of_no_candidate hc]
    rfl

theorem not_fits_iff {P : Params} {n : Nat} : Params.fits P n = false ↔ n ≠ 0 ∧ 2 ^ 32 ≤ P.basePC.toNat + 4 * (n - 1) := by
  rw [← Bool.not_eq_true, fits_iff]
  omega

theorem aligned_iff {P : Params} : Params.aligned P = true ↔ P.basePC.toNat % 4 = 0 := beq_iff_eq

theorem refusal?_eq_some_iff {r : Refusal} :
    s.refusal? = some r ↔ (s.params.basePC.toNat % 4 ≠ 0 ∧ r = .misalignedBasePC) ∨
      (s.params.basePC.toNat % 4 = 0 ∧ Params.fits s.params s.seq.length = false ∧ r = .pcOutOfRange) := by
  unfold State.refusal?
  cases ha : Params.aligned s.params with
  | false =>
    have hne : s.params.basePC.toNat % 4 ≠ 0 := fun h => by simp [aligned_iff.mpr h] at ha
    simp [hne, eq_comm (a := r)]
  | true =>
    have heq := aligned_iff.mp ha
    cases Params.fits s.params s.seq.length <;> simp [heq, eq_comm (a := r)]

theorem issue_eq_refused_iff {r : Refusal} :
    issue s = .refused r ↔ r = .pcOutOfRange ∧ Params.fits s.params (s.seq.length + 1) = false ∧
      ∃ c, s.candidate? = some c ∧ s.blocked c.cand.metadata c.cand.currentStage = true := by
  rw [issue_eq]
  cases hc : s.candidate? with
  | none => simp
  | some c =>
    cases hb : s.blocked c.cand.metadata c.cand.currentStage with
    | false => simp [arbitrate_of_not_blocked hc hb, hb]
    | true =>
      cases hf : Params.fits s.params (s.seq.length + 1) with
      | false => simp [arbitrate_of_no_room hc hb hf, hb, eq_comm (a := r)]
      | true => simp [arbitrate_of_blocked hc hb hf]

theorem step_eq_refused_iff {r : Refusal} :
    step s = .refused r ↔ s.refusal? = some r ∨
      (s.refusal? = none ∧ s.done = false ∧ issue s.advanced = .refused r) := by
  cases hr : s.refusal? with
  | some q => simp [step_of_refusal hr]
  | none =>
    cases hd : s.done with
    | true => simp [step_of_done hr hd]
    | false =>
      rw [step_of_running hr hd]
      cases issue s.advanced <;> simp [dropOutcome]

/-- Settles O40: a state is refused as it stands, or for want of room for the bubble of its blocked candidate. -/
theorem stepIsRefusedInExactlyTwoCases : Obligations.StepIsRefusedInExactlyTwoCases := by
  intro s r
  have hlen : s.advanced.seq.length = s.seq.length := List.length_map ..
  rw [step_eq_refused_iff, refusal?_eq_some_iff, refusal?_eq_none, issue_eq_refused_iff, aligned_iff, fits_iff,
    not_fits_iff, not_fits_iff, hlen, State.advanced_params, Nat.add_sub_cancel, ← List.length_pos_iff]
  constructor
  · rintro ((h | ⟨ha, ⟨hne, hout⟩, rfl⟩) | ⟨⟨ha, hin⟩, hd, rfl, ⟨-, hout⟩, hc⟩)
    · exact .inl h
    · exact .inr ⟨ha, rfl, .inl ⟨by omega, hout⟩⟩
    · exact .inr ⟨ha, rfl, .inr ⟨by omega, hd, hout, hc⟩⟩
  · rintro (h | ⟨ha, rfl, ⟨hne, hout⟩ | ⟨hin, hd, hout, hc⟩⟩)
    · exact .inl (.inl h)
    · exact .inl (.inr ⟨ha, ⟨by omega, hout⟩, rfl⟩)
    · exact .inr ⟨⟨ha, .inr hin⟩, hd, rfl, ⟨by omega, hout⟩, hc⟩

theorem exec_cases (i : Instr) (s : State) :
    (∃ t, exec i s = .next t) ∨
    (exec i s = .refused .pcOutOfRange ∧ ∃ c, s.candidate? = some c ∧
      s.blocked (metaOf i) c.cand.currentStage = true ∧ 2 ^ 32 ≤ s.params.basePC.toNat + 4 * s.seq.length) := by
  rw [exec_eq]
  obtain ⟨-, h⟩ | ⟨c, -, -, h⟩ | ⟨c, -, -, -, h⟩ | ⟨c, hc, hb, hf, h⟩ := arbitrate_cases (metaOf i) s
  · exact .inl ⟨_, h⟩
  · exact .inl ⟨_, h⟩
  · exact .inl ⟨_, h⟩
  · exact .inr ⟨h, c, hc, hb, out_of_range_of_not_fits hf⟩

/-- Settles O41: there is no fault to answer, and a step is refused in the two cases only. -/
theorem nothingFaults : Obligations.NothingFaults := by
  refine ⟨exec_cases, fun s => ?_⟩
  cases h : step s with
  | next t => exact .inl ⟨t, rfl⟩
  | fault r => cases r
  | refused r =>
    obtain ⟨-, rfl⟩ | ⟨-, rfl, -⟩ := (stepIsRefusedInExactlyTwoCases s r).mp h
    · exact .inr (.inl rfl)
    · exact .inr (.inr rfl)

/-! ### What a step counts and leaves (R28, R29, R116, R145) -/

theorem issue_frame (h : issue s = .next t) : t.cycle = s.cycle ∧ t.cfg = s.cfg ∧ t.params = s.params := by
  obtain ⟨-, rfl⟩ | ⟨c, -, -, rfl⟩ | ⟨c, -, -, -, rfl⟩ := issue_next h <;> exact ⟨rfl, rfl, rfl⟩

theorem step_cfg_params (h : step s = .next t) : t.cfg = s.cfg ∧ t.params = s.params := by
  obtain ⟨-, ⟨-, rfl⟩ | ⟨-, u, hu, rfl⟩⟩ := step_next h
  · exact ⟨rfl, rfl⟩
  · exact (issue_frame hu).2

theorem done_iff : s.done = true ↔ ∀ e ∈ s.seq, e.hasCompleted = true := List.all_eq_true

theorem step_cycle_of_running (h : step s = .next t) (hd : s.done = false) : t.cycle = s.cycle + 1 := by
  obtain ⟨-, ⟨hd', -⟩ | ⟨-, u, hu, rfl⟩⟩ := step_next h
  · simp [hd] at hd'
  · exact (issue_frame hu).1

theorem eq_of_step_of_done (h : step s = .next t) (hd : s.done = true) : t = s := by
  obtain ⟨-, ⟨-, rfl⟩ | ⟨hd', -⟩⟩ := step_next h
  · rfl
  · simp [hd] at hd'

/-- Settles O39. -/
theorem stepCountsUntilTheEnd : Obligations.StepCountsUntilTheEnd := by
  intro s t h
  obtain ⟨hcfg, hparams⟩ := step_cfg_params h
  refine ⟨hcfg, hparams, fun hall => eq_of_step_of_done h (done_iff.mpr hall), fun ⟨e, he, hopen⟩ => ?_⟩
  refine step_cycle_of_running h ?_
  rw [← Bool.not_eq_true, done_iff]
  exact fun hall => by simp [hall e he] at hopen

/-! ### The number of bubbles (R25, R151) -/

theorem State.original_eq_length (s : State) : s.original = s.realIdentities.length := by
  rw [State.original, State.realIdentities, List.length_map, List.countP_eq_length_filter]

theorem step_original (h : step s = .next t) : t.original = s.original := by
  rw [State.original_eq_length, State.original_eq_length, (stepDestroysNoEntry s t h).2.1]

/-- With both switches off no category counts (R135). -/
theorem blocked_of_switches_off (hd : s.cfg.dataHazardEnabled = false) (hc : s.cfg.controlHazardEnabled = false)
    (m : InstructionMeta) (st : Stage) : s.blocked m st = false := by
  simp [State.blocked, blockedBy, hd, hc]

theorem length_issue_of_switches_off (hd : s.cfg.dataHazardEnabled = false) (hc : s.cfg.controlHazardEnabled = false)
    (h : issue s = .next t) : t.seq.length = s.seq.length := by
  obtain ⟨-, rfl⟩ | ⟨c, hcut, -, rfl⟩ | ⟨c, -, hb, -, rfl⟩ := issue_next h
  · rfl
  · simp [(cutAtCandidate_some hcut).1]
  · simp [blocked_of_switches_off hd hc] at hb

/-- Settles O57: the real entries are as many as before, and so are the slots. -/
theorem noSwitchNoBubble : Obligations.NoSwitchNoBubble := by
  intro s t hd hc h
  have hlen : t.final = s.final := by
    obtain ⟨-, ⟨-, rfl⟩ | ⟨-, u, hu, rfl⟩⟩ := step_next h
    · rfl
    · simpa [State.final] using length_issue_of_switches_off (s := s.advanced) hd hc hu
  exact ⟨hlen, by rw [State.bubbles, State.bubbles, hlen, step_original h]⟩

end

/-! ### The life cycles (R24, R27) -/

section
variable {e : Entry} {s t : State}

/-- Advanced and dropped, an entry is one stage further in its life. -/
theorem Entry.LifeCycle.drop_advance (h : e.LifeCycle) : e.advance.drop.LifeCycle := by
  obtain ⟨h1, h2, h3, h4⟩ | ⟨h1, h2, h3, h4⟩ | ⟨h1, h2, h3, h4⟩ := h
  · simp [Entry.LifeCycle, h1, h2, h3, h4]
  · obtain h1 | h1 | h1 | h1 := h1 <;>
      simp [Entry.LifeCycle, h1, h2, h3, h4, Stage.next, Stage.completes, nStages, Stage.ordinal]
  · simp [Entry.LifeCycle, h1, h2, h3, h4]

theorem Entry.isWaiting_iff : e.isWaiting = true ↔ e.hasStarted = false ∧ e.hasCompleted = false := by
  simp [Entry.isWaiting]

theorem Entry.lifeCycle_drop_enter (h : e.isWaiting = true) : e.enter.drop.LifeCycle := by
  simp [Entry.LifeCycle, (Entry.isWaiting_iff.mp h).2]

theorem lifeCycle_drop_newBubble (pc : PC) : (newBubble pc).drop.LifeCycle := by
  simp [Entry.LifeCycle]

/-- What the turn of the candidate makes of entries whose drop is in its life cycle. -/
theorem issue_lifeCycle (hlife : ∀ e ∈ s.seq, e.drop.LifeCycle) (h : issue s = .next t) :
    ∀ e ∈ t.seq, e.drop.LifeCycle := by
  obtain ⟨-, rfl⟩ | ⟨c, hc, -, rfl⟩ | ⟨c, hc, -, -, rfl⟩ := issue_next h
  · exact hlife
  · obtain ⟨hseq, hwait, -⟩ := cutAtCandidate_some hc
    rw [hseq, List.forall_mem_append, List.forall_mem_cons] at hlife
    obtain ⟨hbefore, -, hafter⟩ := hlife
    rw [State.enter_seq, List.forall_mem_append, List.forall_mem_cons]
    exact ⟨hbefore, Entry.lifeCycle_drop_enter hwait, hafter⟩
  · obtain ⟨hseq, -, -⟩ := cutAtCandidate_some hc
    rw [hseq, List.forall_mem_append, List.forall_mem_cons] at hlife
    obtain ⟨hbefore, hcand, hafter⟩ := hlife
    rw [State.insertBubble_seq, List.forall_mem_append, List.forall_mem_cons, List.forall_mem_cons, List.forall_mem_map]
    exact ⟨hbefore, lifeCycle_drop_newBubble _, hcand, hafter⟩

theorem step_lifeCycles (hlife : s.LifeCycles) (h : step s = .next t) : t.LifeCycles := by
  obtain ⟨-, ⟨-, rfl⟩ | ⟨-, u, hu, rfl⟩⟩ := step_next h
  · exact hlife
  · refine List.forall_mem_map.mpr (issue_lifeCycle (List.forall_mem_map.mpr fun e he => ?_) hu)
    exact (hlife e he).drop_advance

theorem Entry.LifeCycle.inFlight_eq (h : e.LifeCycle) : e.inFlight = (e.hasStarted && !e.hasCompleted) := by
  obtain ⟨-, h2, h3, h4⟩ | ⟨-, h2, h3, h4⟩ | ⟨-, h2, h3, h4⟩ := h <;> simp [h2, h3, h4]

end

/-! ### Lists of entries by position -/

/-- `p` holds of every entry of `l` with its position, counted from `k`. -/
def Indexed (p : Nat → Entry → Prop) (k : Nat) (l : List Entry) : Prop :=
  ∀ (i : Nat) (e : Entry), l[i]? = some e → p (k + i) e

section
variable {p q : Nat → Entry → Prop} {k : Nat} {x : Entry} {l l₁ l₂ : List Entry}

@[simp] theorem indexed_nil : Indexed p k [] := by simp [Indexed]

@[simp] theorem indexed_cons : Indexed p k (x :: l) ↔ p k x ∧ Indexed p (k + 1) l := by
  constructor
  · exact fun h => ⟨h 0 x rfl, fun i e he => by simpa [Nat.add_assoc, Nat.add_comm 1] using h (i + 1) e he⟩
  · rintro ⟨hx, hl⟩ (_ | i) e he
    · obtain rfl := Option.some.inj he
      exact hx
    · simpa [Nat.add_assoc, Nat.add_comm 1] using hl i e he

@[simp] theorem indexed_append : Indexed p k (l₁ ++ l₂) ↔ Indexed p k l₁ ∧ Indexed p (k + l₁.length) l₂ := by
  induction l₁ generalizing k with
  | nil => simp
  | cons y ys ih => simp [ih, and_assoc, Nat.add_assoc, Nat.add_comm 1]

@[simp] theorem indexed_map {f : Entry → Entry} : Indexed p k (l.map f) ↔ Indexed (fun i e => p i (f e)) k l := by
  induction l generalizing k with
  | nil => simp
  | cons y ys ih => simp [ih]

/-- Every position in `l` is below `k + l.length`. -/
theorem Indexed.imp (h : Indexed p k l) (hpq : ∀ i e, k ≤ i → i < k + l.length → p i e → q i e) : Indexed q k l := by
  intro i e he
  obtain ⟨hi, -⟩ := List.getElem?_eq_some_iff.mp he
  exact hpq _ e (by omega) (by omega) (h i e he)

/-- Moving a list one position on. -/
theorem indexed_succ : Indexed p (k + 1) l ↔ Indexed (fun i e => p (i + 1) e) k l := by
  simp only [Indexed, Nat.add_right_comm]

end

/-! ### The slot numbering (R37, R41) -/

/-- The entry is at the program counter of position `i`. -/
def AtSlot (P : Params) (i : Nat) (e : Entry) : Prop := e.programCounter = P.basePC + BitVec.ofNat 32 (pcIncrement * i)

section
variable {P : Params} {i : Nat} {e : Entry} {s t : State}

theorem pcNumbered_iff : s.PcNumbered ↔ Indexed (AtSlot s.params) 0 s.seq := by
  simp [State.PcNumbered, Indexed, AtSlot]

@[simp] theorem atSlot_advance : AtSlot P i e.advance ↔ AtSlot P i e := by simp [AtSlot]

@[simp] theorem atSlot_drop : AtSlot P i e.drop ↔ AtSlot P i e := Iff.rfl

theorem AtSlot.shift (h : AtSlot P i e) : AtSlot P (i + 1) e.shift := by
  rw [AtSlot, Entry.shift_programCounter, h, pcIncrement, Nat.mul_succ, BitVec.ofNat_add, ← BitVec.add_assoc]

theorem issue_numbered (hnum : s.PcNumbered) (h : issue s = .next t) : t.PcNumbered := by
  rw [pcNumbered_iff] at *
  obtain ⟨-, rfl⟩ | ⟨c, hc, -, rfl⟩ | ⟨c, hc, -, -, rfl⟩ := issue_next h
  · exact hnum
  · rw [(cutAtCandidate_some hc).1, indexed_append, indexed_cons] at hnum
    obtain ⟨hbefore, hcand, hafter⟩ := hnum
    rw [State.enter_seq, indexed_append, indexed_cons]
    exact ⟨hbefore, hcand, hafter⟩
  · rw [(cutAtCandidate_some hc).1, indexed_append, indexed_cons] at hnum
    obtain ⟨hbefore, hcand, hafter⟩ := hnum
    rw [State.insertBubble_seq, indexed_append, indexed_cons, indexed_cons, indexed_map, indexed_succ]
    exact ⟨hbefore, hcand, hcand.shift, hafter.imp fun i e _ _ he => AtSlot.shift he⟩

theorem step_numbered (hnum : s.PcNumbered) (h : step s = .next t) : t.PcNumbered := by
  obtain ⟨-, ⟨-, rfl⟩ | ⟨-, u, hu, rfl⟩⟩ := step_next h
  · exact hnum
  · have hadvanced : s.advanced.PcNumbered := by
      rw [pcNumbered_iff] at *
      simpa using hnum
    have hu' := issue_numbered hadvanced hu
    rw [pcNumbered_iff] at *
    simpa using hu'

/-- An offset `4 * i` above a multiple of 4 is one, also around 2^32. -/
theorem AtSlot.aligned (h : AtSlot P i e) (ha : P.basePC.toNat % 4 = 0) : e.programCounter.toNat % 4 = 0 := by
  rw [h, BitVec.toNat_add, BitVec.toNat_ofNat, pcIncrement]
  omega

/-- Settles O49. -/
theorem stepKeepsTheSlotNumbering : Obligations.StepKeepsTheSlotNumbering := by
  refine ⟨fun s t => step_numbered, fun s hnum ha e he => ?_⟩
  obtain ⟨i, hi⟩ := List.mem_iff_getElem?.mp he
  exact AtSlot.aligned (hnum i e hi) ha

end

/-! ### Before a run -/

/-- Settles O53. -/
theorem configurationWordPacking : Obligations.ConfigurationWordPacking := by
  refine ⟨?_, by decide, fun _ => ⟨rfl, rfl, rfl⟩⟩
  rintro ⟨_ | _, _ | _, _ | _⟩ <;> rfl

/-- Settles O52: a failure is filtered out before the entries are numbered. -/
theorem failedWordsLeaveNoGap : Obligations.FailedWordsLeaveNoGap := by
  constructor
  · intro ws₁ ws₂ w opc cfg P h
    simp [startWords, decodeAll, h, Decoded.instr?]
  · intro ws w i h
    simp [decodeAll, h, Decoded.instr?]

/-- Settles O45. -/
theorem startStateIsTheResetTable : Obligations.StartStateIsTheResetTable := by
  refine fun instrs cfg P => ⟨by simp [start], ?_, rfl, rfl, rfl, fun k i hk => by simp [start, hk, resetEntry, pcIncrement]⟩
  refine List.filter_eq_nil_iff.mpr fun e he => ?_
  obtain ⟨k, hk, rfl⟩ := List.mem_mapIdx.mp he
  simp [resetEntry]

/-- The first Step of a one-instruction run admits it: nothing is in flight. -/
theorem step_start_singleton (i : Instr) (cfg : Cfg) {P : Params} (ha : P.basePC.toNat % 4 = 0) :
    step (start [i] cfg P) = .next
      { seq := [(resetEntry P 0 i).enter], cycle := 1, cfg := cfg, params := P } := by
  have hr : (start [i] cfg P).refusal? = none :=
    refusal?_eq_none.mpr ⟨aligned_iff.mpr ha, fits_succ_iff.mpr P.basePC.isLt⟩
  have hc : (start [i] cfg P).advanced.candidate? = some { before := [], cand := resetEntry P 0 i, after := [] } := rfl
  rw [step_of_running hr rfl, issue_of_real hc rfl, admittedWhenNothingIsInFlight i _ _ hc rfl]
  rfl

/-- Settles O35: the word decodes, so the program is that one instruction. -/
theorem placedWordRunsNext : Obligations.PlacedWordRunsNext := by
  intro s nbits w i ha hi
  obtain ⟨x, hx, hxi⟩ := Option.bind_eq_some_iff.mp hi
  have hstart : s.withFetchWord nbits w = start [i] s.cfg s.params := by
    simp [State.withFetchWord, hx, startWords, decodeAll, hxi]
  rw [hstart, step_start_singleton i s.cfg ha]
  simp [Entry.enter, resetEntry]

/-- Settles O51: the offset of the slot is a multiple of 4 with `off` above it. -/
theorem slotCoversFourOffsets : Obligations.SlotCoversFourOffsets := by
  intro s i off hi hoff hin
  have hpc : (BitVec.ofNat 32 (s.params.basePC.toNat + 4 * i + off)).toNat = s.params.basePC.toNat + 4 * i + off := by
    rw [BitVec.toNat_ofNat, Nat.mod_eq_of_lt hin]
  have hslot : (s.params.basePC.toNat + 4 * i + off - s.params.basePC.toNat) / 4 = i := by omega
  simp only [State.slotAt?, pcIncrement, hpc, hslot]
  rw [if_pos ⟨by omega, hi⟩]

/-- Settles O60: numerator and denominator are divided by their greatest common divisor. -/
theorem overheadIsTheExactRational : Obligations.OverheadIsTheExactRational := by
  intro bubbles original
  refine ⟨fun h => by simp [overhead, h], fun h => ?_⟩
  have hpos : 0 < Nat.gcd (bubbles * 100) original := Nat.gcd_pos_of_pos_right _ (Nat.pos_of_ne_zero h)
  refine ⟨_, by rw [overhead, if_neg h], ?_, Nat.coprime_div_gcd_div_gcd hpos, ?_⟩
  · exact (Nat.div_pos (Nat.gcd_le_right _ (Nat.pos_of_ne_zero h)) hpos).ne'
  · simp only
    rw [Nat.cast_div_div_div_cancel_right (Nat.gcd_dvd_right ..) (Nat.gcd_dvd_left ..)]
    push_cast
    ring

end Sys2Proof.Machine
end

section
/-! PROOFS. The issue distances (R147, R149). In a good state the comparators see the entry `d` slots before the candidate
in the stage of age `d + 1`; each comparator then only asks whether `d` is below a bound, and the bounds together are
`req`. -/

namespace Sys2Proof.Machine

/-! ### The age of an entry (R147) -/

/-- An entry `a` cycles after its position's turn. -/
structure Entry.Aged (a : Nat) (e : Entry) : Prop where
  stage : e.currentStage = stageAtAge a
  started : e.hasStarted = decide (0 < a)
  completed : e.hasCompleted = decide (5 ≤ a)
  inFlight : e.inFlight = decide (0 < a ∧ a < 5)

theorem onTime_iff_aged {e : Entry} {i t : Nat} : e.OnTime i t ↔ e.Aged (t - i) := by
  have hstarted : i < t ↔ 0 < t - i := by omega
  have hcompleted : i + 5 ≤ t ↔ 5 ≤ t - i := by omega
  have hopen : t < i + 5 ↔ t - i < 5 := by omega
  simp only [Entry.OnTime, nStages, hstarted, hcompleted, hopen]
  exact ⟨fun ⟨h1, h2, h3, h4⟩ => ⟨h1, h2, h3, h4⟩, fun ⟨h1, h2, h3, h4⟩ => ⟨h1, h2, h3, h4⟩⟩

/-- The ages of a started entry that differ: the four stages in flight, and completed. -/
theorem pos_age_cases {a : Nat} (ha : 0 < a) : a = 1 ∨ a = 2 ∨ a = 3 ∨ a = 4 ∨ ∃ n, a = n + 5 := by
  by_cases h5 : 5 ≤ a
  · exact .inr (.inr (.inr (.inr ⟨a - 5, by omega⟩)))
  · omega

namespace Entry.Aged

variable {a : Nat} {e : Entry}

theorem lifeCycle (h : e.Aged a) : e.LifeCycle := by
  obtain ⟨h1, h2, h3, h4⟩ := h
  obtain rfl | ha := Nat.eq_zero_or_pos a
  · simp [LifeCycle, h1, h2, h3, h4, stageAtAge]
  · obtain rfl | rfl | rfl | rfl | ⟨n, rfl⟩ := pos_age_cases ha <;> simp [LifeCycle, h1, h2, h3, h4, stageAtAge]

/-- A Step makes a started entry one cycle older. -/
theorem drop_advance (h : e.Aged a) (ha : 0 < a) : e.advance.drop.Aged (a + 1) := by
  obtain ⟨h1, h2, h3, h4⟩ := h
  obtain rfl | rfl | rfl | rfl | ⟨n, rfl⟩ := pos_age_cases ha <;> constructor <;>
    simp [h1, h2, h3, h4, stageAtAge, Stage.next, Stage.completes, Stage.ordinal, nStages]

theorem isWaiting_iff (h : e.Aged a) : e.isWaiting = true ↔ a = 0 := by
  rw [Entry.isWaiting_iff, h.started, h.completed, decide_eq_false_iff_not, decide_eq_false_iff_not]
  omega

/-- Sub-step 1 does not touch an entry that waits, and sub-step 4 neither. -/
theorem advance_eq (h : e.Aged 0) : e.advance = e := Entry.advance_of_not_inFlight h.inFlight

theorem drop_eq (h : e.Aged 0) : e.drop = e := Entry.drop_of_not_completed h.completed

theorem enter (h : e.Aged 0) : e.enter.Aged 1 := ⟨rfl, rfl, h.completed, rfl⟩

theorem shift (h : e.Aged a) : e.shift.Aged a := ⟨h.stage, h.started, h.completed, h.inFlight⟩

end Entry.Aged

theorem aged_newBubble (pc : PC) : (newBubble pc).Aged 1 := ⟨rfl, rfl, rfl, rfl⟩

/-! ### What the comparators see `d` slots before the candidate -/

/-- An entry `d` slots before the candidate, after the advance. -/
structure Entry.Ahead (d : Nat) (p : Entry) : Prop where
  pos : 0 < d
  stage : p.currentStage = stageAtAge (d + 1)
  started : p.hasStarted = true
  completed : p.hasCompleted = decide (4 ≤ d)
  inFlight : p.inFlight = decide (d < 5)

theorem Entry.Aged.ahead {d : Nat} {e : Entry} (h : e.Aged d) (hd : 0 < d) : e.advance.Ahead d := by
  obtain ⟨h1, h2, h3, h4⟩ := h
  obtain rfl | rfl | rfl | rfl | ⟨n, rfl⟩ := pos_age_cases hd <;> constructor <;>
    simp [h1, h2, h3, h4, stageAtAge, Stage.next, Stage.completes, Stage.ordinal, nStages]

/-- The stages of the metadata table: every kind consumes in ID and produces in EX or MEM (R19, R20). -/
def TableStages (m : InstructionMeta) : Prop := m.consumeStage = .ID ∧ (m.produceStage = .EX ∨ m.produceStage = .MEM)

section
variable {P : Params} {cfg : Cfg} {fwd : Bool} {d : Nat} {p : Entry} {c : InstructionMeta} {r : Reg}

theorem rawDistance_le_three (cmp : CmpPolicy) (fwd : Bool) (st : Stage) : rawDistance cmp fwd st ≤ 3 := by
  cases fwd <;> cases cmp <;> simp only [rawDistance]
  case true.nonStrict => split <;> decide
  all_goals decide

/-- The quantities of R129 put the bound of the table of R149 on the distance (R130). -/
theorem raw_timing_iff {cmp : CmpPolicy} {m : InstructionMeta} (hm : TableStages m) (hd : 0 < d) :
    d < 4 ∧ 0 ≤ cyclesToProduce fwd m (stageAtAge (d + 1)) ∧
      later cmp (cyclesToProduce fwd m (stageAtAge (d + 1))) 2 = true ↔ d < rawDistance cmp fwd m.produceStage := by
  have hbound := rawDistance_le_three cmp fwd m.produceStage
  by_cases h4 : d < 4
  · obtain ⟨-, hm | hm⟩ := hm <;> interval_cases d <;> cases fwd <;> cases cmp <;>
      simp [cyclesToProduce, later, rawDistance, hm, stageAtAge, Stage.ordinal]
  · omega

theorem Entry.Ahead.rawOn_iff (h : p.Ahead d) (hc : TableStages c) (hp : TableStages p.metadata) :
    rawOn P fwd c .notStarted p r = true ↔
      (p.metadata.destReg = some r ∧ ¬(P.x0Exempt = true ∧ r = 0#5)) ∧
        d < rawDistance P.cmp fwd p.metadata.produceStage := by
  have hcons : cyclesToConsume c .notStarted = 2 := by rw [cyclesToConsume, hc.1]; rfl
  have hopen : p.hasCompleted = false ↔ d < 4 := by simp [h.completed]
  rw [Machine.rawOn_iff, hcons, h.stage, h.started, hopen, ← raw_timing_iff hp h.pos, InstructionMeta.writesRegister_iff]
  constructor
  · rintro ⟨-, h4, -, hdest, hx0, -, htiming⟩
    exact ⟨⟨hdest, hx0⟩, h4, htiming⟩
  · rintro ⟨⟨hdest, hx0⟩, h4, htiming⟩
    exact ⟨rfl, h4, by simp [hdest], hdest, hx0, by decide, htiming⟩

theorem rawApplies_iff {m : InstructionMeta} :
    rawApplies P c m = true ↔ ¬(P.branchRawExempt = true ∧ c.isBranch = true) ∧
      ∃ r ∈ c.sourceRegs.toList, m.destReg = some r ∧ ¬(P.x0Exempt = true ∧ r = 0#5) := by
  simp [rawApplies, imp_iff_not_or]

theorem Entry.Ahead.raw_iff (h : p.Ahead d) (hc : TableStages c) (hp : TableStages p.metadata) :
    raw P fwd [p] c .notStarted = true ↔
      rawApplies P c p.metadata = true ∧ d < rawDistance P.cmp fwd p.metadata.produceStage := by
  simp only [Machine.raw_iff, List.mem_singleton, exists_eq_left, h.rawOn_iff hc hp, rawApplies_iff, and_assoc]
  constructor
  · rintro ⟨hbranch, r, hr, hdest, hx0, hd⟩
    exact ⟨hbranch, ⟨r, hr, hdest, hx0⟩, hd⟩
  · rintro ⟨hbranch, ⟨r, hr, hdest, hx0⟩, hd⟩
    exact ⟨hbranch, r, hr, hdest, hx0, hd⟩

/-- A stage is left behind that consumes in ID, and the candidate produces later than that (R133). -/
theorem Entry.Ahead.not_war (h : p.Ahead d) (hc : TableStages c) (hp : TableStages p.metadata) :
    war P fwd [p] c .notStarted = false := by
  have hcons : cyclesToConsume p.metadata p.currentStage ≤ 0 := by
    rw [cyclesToConsume, hp.1, h.stage]
    obtain rfl | rfl | rfl | rfl | ⟨n, rfl⟩ := pos_age_cases h.pos <;> simp [stageAtAge, Stage.ordinal]
  have hprod : 3 ≤ cyclesToProduce fwd c .notStarted := by
    obtain ⟨-, hc | hc⟩ := hc <;> cases fwd <;> simp [cyclesToProduce, hc, Stage.ordinal]
  rw [← Bool.not_eq_true, war_iff_exists]
  rintro ⟨q, hq, r, -, hwar⟩
  obtain rfl := List.mem_singleton.mp hq
  obtain ⟨-, -, -, -, -, -, -, htiming⟩ := warOn_iff.mp hwar
  revert htiming
  cases P.cmp <;> simp only [notLater, decide_eq_true_iff] <;> omega

/-- Up to EX is two slots before the candidate at most (D13). -/
theorem Entry.Ahead.ctrl_iff (h : p.Ahead d) :
    ctrl [p] c = true ↔ (c.isControl && p.metadata.isControl) = true ∧ d < 3 := by
  have hstage : p.hasCompleted = false ∧ p.currentStage.ordinal ≤ Stage.EX.ordinal ↔ d < 3 := by
    rw [h.completed, h.stage]
    obtain rfl | rfl | rfl | rfl | ⟨n, rfl⟩ := pos_age_cases h.pos <;> simp [stageAtAge, Stage.ordinal]
  simp only [Machine.ctrl_iff, List.mem_singleton, exists_eq_left, hstage, Bool.and_eq_true, and_assoc]

/-- A row of the table of R149 asks for more than distance 1 only where its condition holds. -/
theorem lt_row_iff {b : Bool} {n : Nat} (hd : 0 < d) : d < (if b then n else 1) ↔ b = true ∧ d < n := by
  cases b with
  | false => simpa using Nat.one_le_iff_ne_zero.mp hd
  | true => simp

theorem lt_req_iff {m : InstructionMeta} (hd : 0 < d) : d < req P cfg m c ↔
    (cfg.dataHazardEnabled = true ∧ rawApplies P c m = true ∧ d < rawDistance P.cmp cfg.forwarding m.produceStage) ∨
    (cfg.controlHazardEnabled = true ∧ (c.isControl && m.isControl) = true ∧ d < 3) := by
  rw [req, lt_max_iff, lt_row_iff hd, lt_row_iff hd, Bool.and_eq_true cfg.dataHazardEnabled,
    Bool.and_eq_true cfg.controlHazardEnabled, and_assoc, and_assoc]

theorem req_le_three (P : Params) (cfg : Cfg) (m c : InstructionMeta) : req P cfg m c ≤ 3 := by
  have hrow := rawDistance_le_three P.cmp cfg.forwarding m.produceStage
  unfold req
  split_ifs <;> omega

/-- The distance at which an entry blocks the candidate is the one the table requires (R149). -/
theorem Entry.Ahead.blockedBy_iff (h : p.Ahead d) (hc : TableStages c) (hp : TableStages p.metadata) :
    blockedBy P cfg [p] c .notStarted = true ↔ d < req P cfg p.metadata c := by
  rw [Machine.blockedBy_iff, h.raw_iff hc hp, h.not_war hc hp, h.ctrl_iff, lt_req_iff h.pos]
  simp

end

/-- Some instruction of `b`, at its position, is nearer to a candidate at position `b.length` than the table of R149
requires. -/
def TooClose (P : Params) (cfg : Cfg) (b : List Entry) (c : InstructionMeta) : Prop :=
  ∃ (j : Nat) (p : Entry), b[j]? = some p ∧ b.length - j < req P cfg p.metadata c

theorem tooClose_map {P : Params} {cfg : Cfg} {b : List Entry} {c : InstructionMeta} {f : Entry → Entry}
    (hf : ∀ e, (f e).metadata = e.metadata) : TooClose P cfg (b.map f) c ↔ TooClose P cfg b c := by
  simp [TooClose, hf]

end Sys2Proof.Machine
end

section
/-! PROOFS. The engine invariant (R24, R27, R32, R37, R127, R142, R147, R148). In a good state in cycle `t` the first `t`
slots have started and the others wait, so the candidate is slot `t`; a Step makes every started entry one cycle older
and puts the candidate or a bubble into slot `t`. What a Step of a good state does is said once, as `GoodStep`. -/

namespace Sys2Proof.Machine

/-! ### Good states by position -/

namespace State.Inv

variable {s : State} {c : Cut}

theorem aged (h : s.Inv) : Indexed (fun i e => e.Aged (s.cycle - i)) 0 s.seq := by
  intro i e he
  rw [Nat.zero_add]
  exact onTime_iff_aged.mp (h.onTime i e he)

theorem aged_getElem (h : s.Inv) {i : Nat} {e : Entry} (he : s.seq[i]? = some e) : e.Aged (s.cycle - i) :=
  onTime_iff_aged.mp (h.onTime i e he)

theorem lifeCycles (h : s.Inv) : s.LifeCycles := by
  intro e he
  obtain ⟨i, hi⟩ := List.mem_iff_getElem?.mp he
  exact (h.aged_getElem hi).lifeCycle

/-- An entry after the advance waits exactly when its position is not below the counter. -/
theorem isWaiting_advance_iff (h : s.Inv) {i : Nat} {e : Entry} (he : s.seq[i]? = some e) :
    e.advance.isWaiting = true ↔ s.cycle ≤ i := by
  have haged := h.aged_getElem he
  have hage : s.cycle - i = 0 ↔ s.cycle ≤ i := Nat.sub_eq_zero_iff_le
  rw [← hage, Entry.isWaiting_iff, Entry.advance_hasStarted, haged.started, decide_eq_false_iff_not]
  constructor
  · exact fun ⟨h0, _⟩ => by omega
  · intro h0
    rw [h0] at haged
    exact ⟨by omega, by rw [haged.advance_eq, haged.completed]; rfl⟩

/-- Without a candidate every slot has started. -/
theorem length_le_of_no_candidate (h : s.Inv) (hc : s.advanced.candidate? = none) : s.seq.length ≤ s.cycle := by
  by_contra hlt
  have he : s.seq[s.cycle]? = some _ := List.getElem?_eq_getElem (by omega)
  have hnone := cutAtCandidate_none.mp hc _ (List.mem_map_of_mem (List.mem_of_getElem? he))
  rw [(h.isWaiting_advance_iff he).mpr le_rfl] at hnone
  exact Bool.noConfusion hnone

/-- The run has ended when the last slot is five cycles old (R145, R147, R148). -/
theorem done_iff_cycle (h : s.Inv) : s.done = true ↔ s.seq = [] ∨ s.seq.length + 4 ≤ s.cycle := by
  rw [done_iff]
  constructor
  · intro hall
    by_contra hnot
    obtain ⟨hne, hlt⟩ := not_or.mp hnot
    have hlast : s.seq[s.seq.length - 1]? = some (s.seq.getLast hne) := by
      rw [← List.getLast?_eq_getElem?, List.getLast?_eq_some_getLast hne]
    have hcomp := hall _ (List.getLast_mem hne)
    rw [(h.aged_getElem hlast).completed, decide_eq_true_iff] at hcomp
    omega
  · rintro (hnil | hle) e he
    · simp [hnil] at he
    · obtain ⟨i, hi⟩ := List.mem_iff_getElem?.mp he
      obtain ⟨hlt, -⟩ := List.getElem?_eq_some_iff.mp hi
      rw [(h.aged_getElem hi).completed, decide_eq_true_iff]
      omega

/-- The candidate is the slot whose turn it is; it and all after it wait, as they did before the advance. -/
theorem cut_at_cycle (h : s.Inv) (hc : s.advanced.candidate? = some c) :
    ∃ b, s.seq = b ++ c.cand :: c.after ∧ c.before = b.map Entry.advance ∧ b.length = s.cycle ∧
      ∀ e ∈ c.cand :: c.after, e.Aged 0 := by
  obtain ⟨hseq, hwait, hbefore⟩ := cutAtCandidate_some hc
  rw [State.advanced_seq] at hseq
  obtain ⟨b, rest, hs, hb, hrest⟩ := List.map_eq_append_iff.mp hseq
  obtain ⟨x, a, rfl, hx, ha⟩ := List.map_eq_cons_iff.mp hrest
  have hcycle : s.cycle ≤ b.length := by
    refine (h.isWaiting_advance_iff (i := b.length) (e := x) (by simp [hs])).mp ?_
    rw [hx, hwait]
  have hlen : b.length = s.cycle := by
    by_contra hne
    have he : b[s.cycle]? = some _ := List.getElem?_eq_getElem (by omega)
    have hw := (h.isWaiting_advance_iff (by rw [hs, List.getElem?_append_left (by omega), he])).mpr le_rfl
    rw [hbefore _ (hb ▸ List.mem_map_of_mem (List.mem_of_getElem? he))] at hw
    exact Bool.noConfusion hw
  have hidle : ∀ e ∈ x :: a, e.Aged 0 := by
    intro e he
    obtain ⟨i, hi⟩ := List.mem_iff_getElem?.mp he
    have haged := h.aged_getElem (i := b.length + i) (e := e)
      (by rw [hs, List.getElem?_append_right (Nat.le_add_right ..), Nat.add_sub_cancel_left, hi])
    rwa [hlen, Nat.sub_eq_zero_of_le (Nat.le_add_right ..)] at haged
  have hfix : (x :: a).map Entry.advance = x :: a := by
    rw [List.map_congr_left fun e he => (hidle e he).advance_eq, List.map_id']
  rw [hrest] at hfix
  exact ⟨b, by rw [hs, hfix], hb.symm, hlen, hfix ▸ hidle⟩

/-- The entries before the candidate, as the comparators see them. -/
theorem ahead (h : s.Inv) (hc : s.advanced.candidate? = some c) {j : Nat} {p : Entry} (hp : c.before[j]? = some p) :
    p.Ahead (c.before.length - j) := by
  obtain ⟨b, hseq, hb, hlen, -⟩ := h.cut_at_cycle hc
  rw [hb] at hp ⊢
  rw [List.getElem?_map, Option.map_eq_some_iff] at hp
  obtain ⟨e, he, rfl⟩ := hp
  obtain ⟨hj, -⟩ := List.getElem?_eq_some_iff.mp he
  have haged := h.aged_getElem (i := j) (by rw [hseq, List.getElem?_append_left hj, he])
  rw [List.length_map, hlen]
  exact haged.ahead (by omega)

/-- What is in flight after the advance stands before the candidate. -/
theorem getElem_before_of_mem_inflight (h : s.Inv) (hc : s.advanced.candidate? = some c) {p : Entry}
    (hp : p ∈ s.advanced.inflight) : ∃ j : Nat, c.before[j]? = some p := by
  obtain ⟨-, -, -, -, hidle⟩ := h.cut_at_cycle hc
  obtain ⟨hmem, hflight⟩ := List.mem_filter.mp hp
  rw [(cutAtCandidate_some hc).1, List.mem_append] at hmem
  obtain hbefore | hrest := hmem
  · exact List.mem_iff_getElem?.mp hbefore
  · rw [(hidle p hrest).inFlight] at hflight
    exact Bool.noConfusion hflight

/-- The candidate is blocked exactly while something before it is too close (R149). -/
theorem blocked_iff (h : s.Inv) (hc : s.advanced.candidate? = some c) :
    s.advanced.blocked c.cand.metadata c.cand.currentStage = true ↔
      TooClose s.params s.cfg c.before c.cand.metadata := by
  obtain ⟨-, -, -, -, hidle⟩ := h.cut_at_cycle hc
  have hstage : c.cand.currentStage = .notStarted := (hidle c.cand List.mem_cons_self).stage
  rw [State.blocked, blockedBy_iff_exists, hstage]
  constructor
  · rintro ⟨p, hp, hblocks⟩
    obtain ⟨j, hj⟩ := h.getElem_before_of_mem_inflight hc hp
    exact ⟨j, p, hj, ((h.ahead hc hj).blockedBy_iff (metadata_stages _) (metadata_stages _)).mp hblocks⟩
  · rintro ⟨j, p, hj, hclose⟩
    have hahead := h.ahead hc hj
    have hle := req_le_three s.params s.cfg p.metadata c.cand.metadata
    refine ⟨p, List.mem_filter.mpr ⟨?_, ?_⟩, (hahead.blockedBy_iff (metadata_stages _) (metadata_stages _)).mpr hclose⟩
    · rw [(cutAtCandidate_some hc).1]
      exact List.mem_append_left _ (List.mem_of_getElem? hj)
    · rw [hahead.inFlight, decide_eq_true_iff]
      omega

end State.Inv

/-- Settles O23. -/
theorem blockedExactlyBelowTheRequiredDistance : Obligations.BlockedExactlyBelowTheRequiredDistance :=
  fun _ _ h hc => h.blocked_iff hc

/-- Settles O20: each entry in flight is some slots before the candidate. -/
theorem warNeverFires : Obligations.WarNeverFires := by
  intro s c h hc
  have hstage : c.cand.currentStage = .notStarted := by
    obtain ⟨-, -, -, -, hidle⟩ := h.cut_at_cycle hc
    exact (hidle c.cand List.mem_cons_self).stage
  rw [hstage, ← Bool.not_eq_true, war_iff_exists]
  rintro ⟨p, hp, hwar⟩
  obtain ⟨j, hj⟩ := h.getElem_before_of_mem_inflight hc hp
  have hnot := (h.ahead hc hj).not_war (P := s.params) (fwd := s.cfg.forwarding) (metadata_stages c.cand)
    (metadata_stages _)
  exact Bool.false_ne_true (hnot.symm.trans (war_iff_exists.mpr ⟨p, List.mem_singleton_self p, hwar⟩))

/-- An entry of a good state that has not started is real (R127). -/
theorem State.Inv.isReal_of_not_started {s : State} {e : Entry} (h : s.Inv) (he : e ∈ s.seq)
    (hs : e.hasStarted = false) : e.isReal = true := by
  cases hb : e.body with
  | real i => simp [Entry.isReal, hb]
  | bubble =>
    obtain ⟨hstarted, -⟩ := h.bubbles e he hb
    exact Bool.noConfusion (hs.symm.trans hstarted)

/-- Settles O36: the cut says it of every state; in a good one the candidate is the slot whose turn it is. -/
theorem candidateIsTheFirstWaitingEntry : Obligations.CandidateIsTheFirstWaitingEntry := by
  refine ⟨fun s c => ?_, fun s => ?_, fun s c h hc => ?_⟩
  · constructor
    · intro hc
      obtain ⟨hseq, hwait, hbefore⟩ := cutAtCandidate_some hc
      obtain ⟨hstart, hcomp⟩ := Entry.isWaiting_iff.mp hwait
      refine ⟨hseq, hstart, hcomp, fun e he hopen => ?_⟩
      exact Bool.false_ne_true ((hbefore e he).symm.trans (Entry.isWaiting_iff.mpr hopen))
    · rintro ⟨hseq, hstart, hcomp, hbefore⟩
      rw [State.candidate?, hseq]
      refine cutAtCandidate_append (Entry.isWaiting_iff.mpr ⟨hstart, hcomp⟩) fun e he => ?_
      rw [← Bool.not_eq_true, Entry.isWaiting_iff]
      exact hbefore e he
  · simp only [State.candidate?, cutAtCandidate_none, ← Bool.not_eq_true, Entry.isWaiting_iff]
  · obtain ⟨b, hseq, hb, hlen, hidle⟩ := h.cut_at_cycle hc
    constructor
    · refine h.isReal_of_not_started (e := c.cand) (by simp [hseq]) ?_
      exact (hidle c.cand List.mem_cons_self).started
    · intro e he
      obtain ⟨j, hj⟩ := List.mem_iff_getElem?.mp he
      exact (h.ahead hc hj).started

/-! ### What a Step of a good state does (R136 to R142) -/

/-- Sub-steps 1 and 4 on one entry: all a Step does to an entry that has started. -/
def Entry.tick (e : Entry) : Entry := e.advance.drop

section
variable (e : Entry)

@[simp] theorem Entry.tick_body : e.tick.body = e.body := by simp [Entry.tick]
@[simp] theorem Entry.tick_id : e.tick.id = e.id := by simp [Entry.tick]
@[simp] theorem Entry.tick_originalProgramCounter : e.tick.originalProgramCounter = e.originalProgramCounter := by
  simp [Entry.tick]
@[simp] theorem Entry.tick_programCounter : e.tick.programCounter = e.programCounter := by simp [Entry.tick]
@[simp] theorem Entry.tick_hasStarted : e.tick.hasStarted = e.hasStarted := by simp [Entry.tick]
@[simp] theorem Entry.isReal_tick : e.tick.isReal = e.isReal := by simp [Entry.tick]
@[simp] theorem Entry.metadata_tick : e.tick.metadata = e.metadata := by simp [Entry.tick]
@[simp] theorem Entry.instr?_tick : e.tick.instr? = e.instr? := by simp [Entry.tick]

end

/-- The Step of a good state `s`: it drains the pipeline when nothing waits, and else it admits the waiting slot or puts a
bubble in its place, by the distances of R149. -/
inductive GoodStep (s : State) : State → Prop where
  | drains (hlen : s.seq.length ≤ s.cycle) : GoodStep s { s with seq := s.seq.map Entry.tick, cycle := s.cycle + 1 }
  | admits (b : List Entry) (c : Entry) (a : List Entry) (hseq : s.seq = b ++ c :: a) (hlen : b.length = s.cycle)
      (hidle : ∀ e ∈ c :: a, e.Aged 0) (hreal : c.isReal = true) (hfree : ¬TooClose s.params s.cfg b c.metadata) :
      GoodStep s { s with seq := b.map Entry.tick ++ c.enter :: a, cycle := s.cycle + 1 }
  | stalls (b : List Entry) (c : Entry) (a : List Entry) (hseq : s.seq = b ++ c :: a) (hlen : b.length = s.cycle)
      (hidle : ∀ e ∈ c :: a, e.Aged 0) (hreal : c.isReal = true) (hclose : TooClose s.params s.cfg b c.metadata)
      (hfits : Params.fits s.params (s.seq.length + 1) = true) :
      GoodStep s
        { s with
          seq := b.map Entry.tick ++ newBubble c.programCounter :: (c :: a).map Entry.shift, cycle := s.cycle + 1 }

theorem State.Inv.goodStep {s t : State} (h : s.Inv) (hd : s.done = false) (hs : step s = .next t) : GoodStep s t := by
  obtain ⟨-, ⟨hd', -⟩ | ⟨-, u, hu, rfl⟩⟩ := step_next hs
  · exact Bool.noConfusion (hd.symm.trans hd')
  have hticks (l : List Entry) : (l.map Entry.advance).map Entry.drop = l.map Entry.tick := List.map_map
  have hdrop (l : List Entry) (hl : ∀ e ∈ l, e.Aged 0) : l.map Entry.drop = l := by
    rw [List.map_congr_left fun e he => (hl e he).drop_eq, List.map_id']
  obtain ⟨hc, rfl⟩ | ⟨c, hc, hb, rfl⟩ | ⟨c, hc, hb, hfits, rfl⟩ := issue_next hu
  · have ht : s.advanced.dropCompleted = { s with seq := s.seq.map Entry.tick, cycle := s.cycle + 1 } := by
      rw [State.dropCompleted, State.advanced_seq, hticks]
      rfl
    exact ht ▸ .drains (h.length_le_of_no_candidate hc)
  all_goals
    obtain ⟨b, hseq, hbefore, hlen, hidle⟩ := h.cut_at_cycle hc
    have hreal := ((candidateIsTheFirstWaitingEntry.2.2 s c h hc)).1
    have hclose : TooClose s.params s.cfg c.before c.cand.metadata ↔ TooClose s.params s.cfg b c.cand.metadata :=
      hbefore ▸ tooClose_map Entry.metadata_advance
    obtain ⟨hcand, hafter⟩ := List.forall_mem_cons.mp hidle
  · have ht : (s.advanced.enter c).dropCompleted =
        { s with seq := b.map Entry.tick ++ c.cand.enter :: c.after, cycle := s.cycle + 1 } := by
      rw [State.dropCompleted, State.enter_seq, List.map_append, List.map_cons, hbefore, hticks,
        Entry.drop_of_not_completed hcand.enter.completed, hdrop _ hafter]
      rfl
    refine ht ▸ .admits b c.cand c.after hseq hlen hidle hreal ?_
    rw [← hclose, ← h.blocked_iff hc, hb]
    exact Bool.false_ne_true
  · have ht : (s.advanced.insertBubble c).dropCompleted =
        { s with
          seq := b.map Entry.tick ++ newBubble c.cand.programCounter :: (c.cand :: c.after).map Entry.shift
          cycle := s.cycle + 1 } := by
      rw [State.dropCompleted, State.insertBubble_seq, ← List.map_cons, List.map_append, List.map_cons, hbefore, hticks,
        Entry.drop_of_not_completed (newBubble_hasCompleted _), hdrop (List.map _ _) ?_]
      · rfl
      · exact List.forall_mem_map.mpr fun e he => (hidle e he).shift
    have hclose' := hclose.mp ((h.blocked_iff hc).mp hb)
    refine ht ▸ .stalls b c.cand c.after hseq hlen hidle hreal hclose' ?_
    simpa using hfits

/-! ### The invariant is kept (R24, R27, R37, R127, R147, R148) -/

theorem start_inv (instrs : List Instr) (cfg : Cfg) (P : Params) : (start instrs cfg P).Inv := by
  have hentry {i : Nat} {e : Entry} (he : (start instrs cfg P).seq[i]? = some e) : ∃ x, e = resetEntry P i x := by
    obtain ⟨x, -, hx⟩ := by simpa [start, List.getElem?_mapIdx, Option.map_eq_some_iff] using he
    exact ⟨x, hx.symm⟩
  refine ⟨fun i e he => ?_, fun i e he => ?_, fun e he => ?_, Nat.zero_le _⟩
  · obtain ⟨x, rfl⟩ := hentry he
    refine onTime_iff_aged.mpr ?_
    rw [show (start instrs cfg P).cycle - i = 0 from Nat.zero_sub i]
    exact ⟨rfl, rfl, rfl, rfl⟩
  · obtain ⟨x, rfl⟩ := hentry he
    rfl
  · obtain ⟨i, hi⟩ := List.mem_iff_getElem?.mp he
    obtain ⟨x, rfl⟩ := hentry hi
    exact fun hb => Body.noConfusion hb

/-- Settles O46. -/
theorem everyStartIsGood : Obligations.EveryStartIsGood := start_inv

/-- Settles O44: the reset state is the start of the empty program. -/
theorem emptyResetIsGood : Obligations.EmptyResetIsGood :=
  ⟨start_inv [] State.reset.cfg State.reset.params, rfl, rfl, rfl⟩

theorem Entry.bubbleForm_of_isReal {e : Entry} (h : e.isReal = true) : e.BubbleForm := fun hb => by
  simp [Entry.isReal, hb] at h

theorem bubbleForm_newBubble (pc : PC) : (newBubble pc).BubbleForm := fun _ => ⟨rfl, rfl, rfl⟩

theorem Entry.BubbleForm.tick {e : Entry} (h : e.BubbleForm) : e.tick.BubbleForm := by
  simpa [Entry.BubbleForm] using h

theorem Entry.Aged.tick {a : Nat} {e : Entry} (h : e.Aged a) (ha : 0 < a) : e.tick.Aged (a + 1) := h.drop_advance ha

theorem indexed_of_forall {p : Nat → Entry → Prop} {k : Nat} {l : List Entry}
    (h : ∀ e ∈ l, ∀ i, k ≤ i → p i e) : Indexed p k l := fun i e he =>
  h e (List.mem_of_getElem? he) (k + i) (Nat.le_add_right k i)

/-- Every started entry is one cycle older after the Step, and the entry in the slot whose turn it was is new. -/
theorem GoodStep.aged {s t : State} (h : s.Inv) (hg : GoodStep s t) :
    Indexed (fun i e => e.Aged (t.cycle - i)) 0 t.seq := by
  have haged := h.aged
  have hticks {b : List Entry} (hb : Indexed (fun i e => e.Aged (s.cycle - i)) 0 b) (hle : b.length ≤ s.cycle) :
      Indexed (fun i e => e.Aged (s.cycle + 1 - i)) 0 (b.map Entry.tick) := by
    refine indexed_map.mpr (hb.imp fun i e _ hi he => ?_)
    have ht := he.tick (by omega)
    rwa [show s.cycle - i + 1 = s.cycle + 1 - i by omega] at ht
  have hyoung {l : List Entry} (hl : ∀ e ∈ l, e.Aged 0) {k : Nat} (hk : s.cycle < k) :
      Indexed (fun i e => e.Aged (s.cycle + 1 - i)) k l := by
    refine indexed_of_forall fun e he i hi => ?_
    rw [Nat.sub_eq_zero_of_le (by omega)]
    exact hl e he
  cases hg with
  | drains hlen => exact hticks haged hlen
  | admits b c a hseq hlen hidle =>
    obtain ⟨hcand, hafter⟩ := List.forall_mem_cons.mp hidle
    rw [hseq, indexed_append] at haged
    refine indexed_append.mpr ⟨hticks haged.1 hlen.le, ?_⟩
    rw [List.length_map, hlen, Nat.zero_add, indexed_cons, Nat.add_sub_cancel_left]
    exact ⟨hcand.enter, hyoung hafter (Nat.lt_succ_self _)⟩
  | stalls b c a hseq hlen hidle =>
    rw [hseq, indexed_append] at haged
    refine indexed_append.mpr ⟨hticks haged.1 hlen.le, ?_⟩
    rw [List.length_map, hlen, Nat.zero_add, indexed_cons, Nat.add_sub_cancel_left]
    exact ⟨aged_newBubble _, hyoung (List.forall_mem_map.mpr fun e he => (hidle e he).shift) (Nat.lt_succ_self _)⟩

theorem GoodStep.bubbleForm {s t : State} (h : s.Inv) (hg : GoodStep s t) : ∀ e ∈ t.seq, e.BubbleForm := by
  have hticks {b : List Entry} (hb : ∀ e ∈ b, e ∈ s.seq) : ∀ e ∈ b.map Entry.tick, e.BubbleForm :=
    List.forall_mem_map.mpr fun e he => (h.bubbles e (hb e he)).tick
  cases hg with
  | drains => exact hticks fun _ => id
  | admits b c a hseq hlen hidle hreal =>
    refine List.forall_mem_append.mpr ⟨hticks fun e he => by simp [hseq, he], List.forall_mem_cons.mpr ⟨?_, ?_⟩⟩
    · exact Entry.bubbleForm_of_isReal hreal
    · exact fun e he => h.bubbles e (by simp [hseq, he])
  | stalls b c a hseq hlen hidle =>
    refine List.forall_mem_append.mpr ⟨hticks fun e he => by simp [hseq, he], List.forall_mem_cons.mpr ⟨?_, ?_⟩⟩
    · exact bubbleForm_newBubble _
    · refine List.forall_mem_map.mpr fun e he => Entry.bubbleForm_of_isReal ?_
      exact h.isReal_of_not_started (e := e) (hseq ▸ List.mem_append_right b he) (hidle e he).started

/-- A Step does not take slots away. -/
theorem GoodStep.length_le {s t : State} (hg : GoodStep s t) : s.seq.length ≤ t.seq.length := by
  cases hg with
  | drains => simp
  | admits b c a hseq => simp [hseq]
  | stalls b c a hseq => simp [hseq]

theorem State.Inv.step {s t : State} (h : s.Inv) (hs : step s = .next t) : t.Inv := by
  cases hd : s.done with
  | true => exact eq_of_step_of_done hs hd ▸ h
  | false =>
    have hg := h.goodStep hd hs
    refine ⟨fun i e he => ?_, step_numbered h.numbered hs, hg.bubbleForm h, ?_⟩
    · have haged := hg.aged h i e he
      rw [Nat.zero_add] at haged
      exact onTime_iff_aged.mpr haged
    · obtain ⟨hne, hlt⟩ := not_or.mp fun hend => Bool.false_ne_true (hd.symm.trans (h.done_iff_cycle.mpr hend))
      have hpos := List.length_pos_iff.mpr hne
      have hlen := hg.length_le
      rw [step_cycle_of_running hs hd, if_neg (List.length_pos_iff.mp (by omega)), nStages]
      omega

/-- Settles O47. -/
theorem stepKeepsTheEngineGood : Obligations.StepKeepsTheEngineGood := fun _ _ h hs => h.step hs

/-- Settles O48: a good state is in its life cycles by the ages of its entries. -/
theorem stepKeepsTheLifeCycles : Obligations.StepKeepsTheLifeCycles :=
  ⟨fun _ _ => step_lifeCycles, fun _ h e he => (h e he).inFlight_eq, fun _ h => h.lifeCycles⟩

/-! ### The pipeline registers (R32, R142) -/

/-- The entry `k` cycles after its turn, if there is one. -/
def State.slotAged (s : State) (k : Nat) : Option Entry := if k ≤ s.cycle then s.seq[s.cycle - k]? else none

/-- A filter that picks one position. -/
theorem filter_eq_toList_getElem? {l : List Entry} {p : Entry → Bool} {m : Nat}
    (h : ∀ (i : Nat) (e : Entry), l[i]? = some e → (p e = true ↔ i = m)) : l.filter p = l[m]?.toList := by
  induction l generalizing m with
  | nil => simp
  | cons x xs ih =>
    have hx := h 0 x rfl
    cases m with
    | zero =>
      have hxs : xs.filter p = [] := List.filter_eq_nil_iff.mpr fun e he => by
        obtain ⟨i, hi⟩ := List.mem_iff_getElem?.mp he
        simp [h (i + 1) e hi]
      simp [hx.mpr rfl, hxs]
    | succ m =>
      have hnot : ¬p x = true := fun hp => Nat.succ_ne_zero m (hx.mp hp).symm
      rw [List.filter_cons_of_neg hnot, List.getElem?_cons_succ]
      exact ih fun i e he => by simpa using h (i + 1) e he

/-- In flight in the stage of age `k` is the entry of that age. -/
theorem Entry.Aged.inStage_iff {a k : Nat} {e : Entry} (h : e.Aged a) (hk : 0 < k) (hk5 : k < 5) :
    (e.inFlight && decide (e.currentStage = stageAtAge k)) = true ↔ a = k := by
  rw [h.inFlight, h.stage]
  obtain rfl | ha := Nat.eq_zero_or_pos a
  · simp [hk.ne]
  · interval_cases k <;> obtain rfl | rfl | rfl | rfl | ⟨n, rfl⟩ := pos_age_cases ha <;> simp [stageAtAge]

theorem State.Inv.filter_stage {s : State} (h : s.Inv) {k : Nat} (hk : 0 < k) (hk5 : k < 5) :
    (s.inflight.filter fun e => decide (e.currentStage = stageAtAge k)) = (s.slotAged k).toList := by
  rw [State.inflight, List.filter_filter, State.slotAged]
  split_ifs with hle
  · refine filter_eq_toList_getElem? fun i e he => ?_
    rw [Bool.and_comm, (h.aged_getElem he).inStage_iff hk hk5]
    omega
  · refine List.filter_eq_nil_iff.mpr fun e he => ?_
    obtain ⟨i, hi⟩ := List.mem_iff_getElem?.mp he
    rw [Bool.and_comm, (h.aged_getElem hi).inStage_iff hk hk5]
    omega

/-- Settles O50. -/
theorem atMostOneEntryPerStage : Obligations.AtMostOneEntryPerStage := by
  intro s h
  have hone {k : Nat} (hk : 0 < k) (hk5 : k < 5) :
      (s.inflight.filter fun e => decide (e.currentStage = stageAtAge k)).length ≤ 1 := by
    rw [h.filter_stage hk hk5]
    exact Option.length_toList_le
  constructor
  · simp only [List.forall_mem_cons, List.not_mem_nil, false_implies, implies_true, and_true]
    exact ⟨hone (k := 1) (by decide) (by decide), hone (k := 2) (by decide) (by decide),
      hone (k := 3) (by decide) (by decide), hone (k := 4) (by decide) (by decide)⟩
  · intro e he
    obtain ⟨hmem, hflight⟩ := List.mem_filter.mp he
    obtain ⟨-, -, -, hout⟩ | ⟨hst, -⟩ | ⟨-, -, -, hout⟩ := h.lifeCycles e hmem
    · exact Bool.noConfusion (hout.symm.trans hflight)
    · obtain hst | hst | hst | hst := hst <;> simp [hst]
    · exact Bool.noConfusion (hout.symm.trans hflight)

theorem State.Inv.candidate?_eq_none_iff {s : State} (h : s.Inv) :
    s.advanced.candidate? = none ↔ s.seq.length ≤ s.cycle := by
  refine ⟨h.length_le_of_no_candidate, fun hle => ?_⟩
  by_contra hne
  obtain ⟨c, hc⟩ := Option.ne_none_iff_exists'.mp hne
  obtain ⟨b, hseq, -, hlen, -⟩ := h.cut_at_cycle hc
  simp only [hseq, List.length_append, List.length_cons] at hle
  omega

/-- Settles O43: what enters IF stands in the slot whose turn it was. -/
theorem oneAdmissionPerStep : Obligations.OneAdmissionPerStep := by
  intro s t h hd hs
  have hone := (h.step hs).filter_stage (k := 1) (by decide) (by decide)
  have hslot : t.slotAged 1 = t.seq[s.cycle]? := by simp [State.slotAged, step_cycle_of_running hs hd]
  rw [stageAtAge, hslot] at hone
  rw [hone]
  cases h.goodStep hd hs with
  | drains hlen =>
    rw [if_pos (h.candidate?_eq_none_iff.mpr hlen)]
    simp [hlen]
  | admits b c a hseq hlen =>
    have hlt : ¬s.seq.length ≤ s.cycle := by simp [hseq, hlen]
    rw [if_neg (h.candidate?_eq_none_iff.not.mpr hlt)]
    simp [← hlen]
  | stalls b c a hseq hlen =>
    have hlt : ¬s.seq.length ≤ s.cycle := by simp [hseq, hlen]
    rw [if_neg (h.candidate?_eq_none_iff.not.mpr hlt)]
    simp [← hlen]

end Sys2Proof.Machine
end

section
/-! PROOFS. The hardware reading (R32, R144). In a good state in cycle `t` the reading is told by positions: the register of
the stage of age `k` holds slot `t - k`, the slot counter is the number of started slots and the trace is those slots.
One cycle of the hardware then does to these positions what a Step does to the slots. -/

namespace Sys2Proof.Machine

/-! ### The reading of a good state -/

namespace State.Inv

variable {s : State}

theorem inStage_eq (h : s.Inv) {k : Nat} (hk : 0 < k) (hk5 : k < 5) :
    s.inStage (stageAtAge k) = (s.slotAged k).map (·.body) := by
  rw [State.inStage, ← List.head?_filter, h.filter_stage hk hk5, Option.head?_toList]

/-- The started slots are those whose turn has come (R147). -/
theorem filter_hasStarted (h : s.Inv) : s.seq.filter (·.hasStarted) = s.seq.take s.cycle := by
  have htake : ∀ e ∈ s.seq.take s.cycle, e.hasStarted = true := fun e he => by
    obtain ⟨i, hi⟩ := List.mem_iff_getElem?.mp he
    rw [List.getElem?_take] at hi
    split_ifs at hi
    rw [(h.aged_getElem hi).started, decide_eq_true_iff]
    omega
  have hdrop : ∀ e ∈ s.seq.drop s.cycle, ¬e.hasStarted = true := fun e he => by
    obtain ⟨i, hi⟩ := List.mem_iff_getElem?.mp he
    rw [List.getElem?_drop] at hi
    rw [(h.aged_getElem hi).started, decide_eq_true_iff]
    omega
  conv_lhs => rw [← List.take_append_drop s.cycle s.seq]
  rw [List.filter_append, List.filter_eq_self.mpr htake, List.filter_eq_nil_iff.mpr hdrop, List.append_nil]

theorem hardware_eq (h : s.Inv) : s.hardware =
    { input := s.seq.filterMap Entry.instr?
      head := (s.seq.take s.cycle).countP (·.isReal)
      slots := (s.seq.take s.cycle).length
      ifR := (s.slotAged 1).map (·.body), idR := (s.slotAged 2).map (·.body)
      exR := (s.slotAged 3).map (·.body), memR := (s.slotAged 4).map (·.body)
      trace := (s.seq.take s.cycle).map fun e => (e.programCounter, e.body)
      cycle := s.cycle, cfg := s.cfg, params := s.params } := by
  have hslots : s.seq.countP (·.hasStarted) = (s.seq.take s.cycle).length := by
    rw [List.countP_eq_length_filter, h.filter_hasStarted]
  have hhead : s.seq.countP (fun e => e.isReal && e.hasStarted) = (s.seq.take s.cycle).countP (·.isReal) := by
    rw [← h.filter_hasStarted, List.countP_filter]
  rw [State.hardware, hslots, hhead, h.filter_hasStarted, ← h.inStage_eq (k := 1) (by decide) (by decide),
    ← h.inStage_eq (k := 2) (by decide) (by decide), ← h.inStage_eq (k := 3) (by decide) (by decide),
    ← h.inStage_eq (k := 4) (by decide) (by decide)]
  rfl

end State.Inv

/-! ### What the comparators of the hardware see -/

theorem blockedBy_append (P : Params) (cfg : Cfg) (l₁ l₂ : List Entry) (c : InstructionMeta) (st : Stage) :
    blockedBy P cfg (l₁ ++ l₂) c st = (blockedBy P cfg l₁ c st || blockedBy P cfg l₂ c st) := by
  rw [Bool.eq_iff_iff, Bool.or_eq_true, blockedBy_iff_exists, blockedBy_iff_exists (l := l₁),
    blockedBy_iff_exists (l := l₂)]
  simp only [List.mem_append, or_and_right, exists_or]

/-- A stage register blocks by the distance its stage stands for (R149). -/
theorem blockedBy_stageReg_iff {P : Params} {cfg : Cfg} {k : Nat} {r : Option Entry} {c : InstructionMeta}
    (hc : TableStages c) (hk : 0 < k) (hk4 : k < 4) :
    blockedBy P cfg (stageReg (stageAtAge (k + 1)) (r.map (·.body))) c .notStarted = true ↔
      ∃ e, r = some e ∧ k < req P cfg e.metadata c := by
  cases r with
  | none => simp [stageReg]
  | some e =>
    have hahead : Entry.Ahead k
        { body := e.body, id := 0, programCounter := 0#32, originalProgramCounter := 0#32
          currentStage := stageAtAge (k + 1), hasStarted := true, hasCompleted := false, inFlight := true } :=
      ⟨hk, rfl, rfl, by simp [hk4], by simp; omega⟩
    rw [stageReg, Option.map_some, Option.toList_some, List.map_singleton,
      hahead.blockedBy_iff hc (metadata_stages _)]
    simp [Entry.metadata]

theorem tooClose_iff_slotAged {P : Params} {cfg : Cfg} {s : State} {b : List Entry} {c : Entry} {a : List Entry}
    {m : InstructionMeta} (hseq : s.seq = b ++ c :: a) (hlen : b.length = s.cycle) :
    TooClose P cfg b m ↔ ∃ k, 0 < k ∧ k < 4 ∧ ∃ e, s.slotAged k = some e ∧ k < req P cfg e.metadata m := by
  constructor
  · rintro ⟨j, e, hj, hclose⟩
    obtain ⟨hlt, -⟩ := List.getElem?_eq_some_iff.mp hj
    have hle := req_le_three P cfg e.metadata m
    refine ⟨b.length - j, by omega, by omega, e, ?_, hclose⟩
    rw [State.slotAged, if_pos (by omega), show s.cycle - (b.length - j) = j by omega, hseq,
      List.getElem?_append_left hlt, hj]
  · rintro ⟨k, hk, -, e, he, hclose⟩
    rw [State.slotAged] at he
    split_ifs at he with hle
    have hlt : s.cycle - k < b.length := by omega
    rw [hseq, List.getElem?_append_left hlt] at he
    exact ⟨s.cycle - k, e, he, by rwa [show b.length - (s.cycle - k) = k by omega]⟩

/-- The hardware's comparators agree with the distances. -/
theorem blockedBy_occupants_iff {s : State} (h : s.Inv) {b : List Entry} {c : Entry} {a : List Entry}
    {m : InstructionMeta} (hseq : s.seq = b ++ c :: a) (hlen : b.length = s.cycle) (hm : TableStages m) :
    blockedBy s.params s.cfg s.hardware.occupants m .notStarted = true ↔ TooClose s.params s.cfg b m := by
  have hreg {k : Nat} (hk : 0 < k) (hk4 : k < 4) := blockedBy_stageReg_iff (P := s.params) (cfg := s.cfg)
    (r := s.slotAged k) hm hk hk4
  rw [HwState.occupants, h.hardware_eq, blockedBy_append, blockedBy_append, Bool.or_eq_true, Bool.or_eq_true]
  have h1 := hreg (k := 1) (by decide) (by decide)
  have h2 := hreg (k := 2) (by decide) (by decide)
  have h3 := hreg (k := 3) (by decide) (by decide)
  simp only [stageAtAge] at h1 h2 h3
  rw [h1, h2, h3, tooClose_iff_slotAged hseq hlen]
  constructor
  · rintro ((hb | hb) | hb)
    · exact ⟨1, by decide, by decide, hb⟩
    · exact ⟨2, by decide, by decide, hb⟩
    · exact ⟨3, by decide, by decide, hb⟩
  · rintro ⟨k, hk, hk4, hb⟩
    interval_cases k
    · exact .inl (.inl hb)
    · exact .inl (.inr hb)
    · exact .inr hb

/-! ### One cycle -/

/-- The bodies of the slots below the counter do not change. -/
theorem GoodStep.getElem?_of_lt {s t : State} (hg : GoodStep s t) {i : Nat} (hi : i < s.cycle) :
    t.seq[i]? = s.seq[i]?.map Entry.tick := by
  cases hg with
  | drains => rw [List.getElem?_map]
  | admits b c a hseq hlen | stalls b c a hseq hlen =>
    have hlt : i < b.length := by omega
    rw [List.getElem?_append_left (by simpa using hlt), hseq, List.getElem?_append_left hlt, List.getElem?_map]

theorem GoodStep.cycle_eq {s t : State} (hg : GoodStep s t) : t.cycle = s.cycle + 1 := by
  cases hg <;> rfl

theorem GoodStep.cfg_eq {s t : State} (hg : GoodStep s t) : t.cfg = s.cfg := by
  cases hg <;> rfl

theorem GoodStep.params_eq {s t : State} (hg : GoodStep s t) : t.params = s.params := by
  cases hg <;> rfl

/-- A register takes the body of the register before it (R32). -/
theorem GoodStep.map_body_slotAged {s t : State} (hg : GoodStep s t) {k : Nat} (hk : 0 < k) :
    (t.slotAged (k + 1)).map (·.body) = (s.slotAged k).map (·.body) := by
  rw [State.slotAged, State.slotAged, hg.cycle_eq]
  by_cases hle : k ≤ s.cycle
  · rw [if_pos (Nat.succ_le_succ hle), if_pos hle, Nat.add_sub_add_right, hg.getElem?_of_lt (by omega), Option.map_map]
    simp [Function.comp_def]
  · rw [if_neg hle, if_neg (by omega)]

theorem GoodStep.slotAged_one {s t : State} (hg : GoodStep s t) : t.slotAged 1 = t.seq[s.cycle]? := by
  simp [State.slotAged, hg.cycle_eq]

theorem Entry.isSome_instr? (e : Entry) : e.instr?.isSome = e.isReal := by
  cases hb : e.body <;> simp [Entry.instr?, Entry.isReal, hb]

theorem Entry.exists_of_isReal {e : Entry} (h : e.isReal = true) : ∃ i, e.body = .real i ∧ e.instr? = some i := by
  cases hb : e.body with
  | real i => exact ⟨i, rfl, by simp [Entry.instr?, hb]⟩
  | bubble => simp [Entry.isReal, hb] at h

theorem length_filterMap_instr? (l : List Entry) : (l.filterMap Entry.instr?).length = l.countP (·.isReal) := by
  simp only [List.length_filterMap_eq_countP, Entry.isSome_instr?]

/-- The head pointer stands at the first instruction not yet issued (R144). -/
theorem getElem?_filterMap_instr? {b : List Entry} {c : Entry} {a : List Entry} {i : Instr} (hc : c.instr? = some i) :
    ((b ++ c :: a).filterMap Entry.instr?)[b.countP (·.isReal)]? = some i := by
  rw [List.filterMap_append, ← length_filterMap_instr?, List.getElem?_append_right le_rfl, Nat.sub_self,
    List.filterMap_cons_some hc]
  rfl

section
variable {h : HwState} {i : Instr}

theorem HwState.next_of_end (hi : h.input[h.head]? = none) : h.next = h.shift none := by
  rw [HwState.next, hi]

theorem HwState.next_of_blocked (hi : h.input[h.head]? = some i)
    (hb : blockedBy h.params h.cfg h.occupants (metaOf i) .notStarted = true) : h.next = h.put .bubble := by
  simp [HwState.next, hi, hb]

theorem HwState.next_of_free (hi : h.input[h.head]? = some i)
    (hb : blockedBy h.params h.cfg h.occupants (metaOf i) .notStarted = false) :
    h.next = { h.put (.real i) with head := h.head + 1 } := by
  simp [HwState.next, hi, hb]

end

theorem start_instrs (instrs : List Instr) (cfg : Cfg) (P : Params) :
    (start instrs cfg P).seq.filterMap Entry.instr? = instrs := by
  have hmap : (start instrs cfg P).seq.map Entry.instr? = instrs.map some := by
    apply List.ext_getElem?
    intro i
    simp [start, resetEntry, Entry.instr?, Function.comp_def]
  rw [← Function.id_comp Entry.instr?, ← List.filterMap_map, hmap, List.filterMap_map]
  exact List.filterMap_some

theorem start_hardware (instrs : List Instr) (cfg : Cfg) (P : Params) : (start instrs cfg P).hardware =
    { input := instrs, head := 0, slots := 0, ifR := none, idR := none, exR := none, memR := none, trace := []
      cycle := 0, cfg := cfg, params := P } := by
  rw [(start_inv instrs cfg P).hardware_eq, start_instrs]
  rfl

section
variable {s t : State}

/-- What stands in the slot whose turn it was has been put into IF, and the head pointer counts it if it is real. -/
theorem GoodStep.hardware_of_slot (h : s.Inv) (ht : t.Inv) (hg : GoodStep s t) {b r a : List Entry} {c x : Entry}
    (hseq : s.seq = b ++ c :: a) (hlen : b.length = s.cycle) (htseq : t.seq = b.map Entry.tick ++ x :: r)
    (hpc : x.programCounter = c.programCounter)
    (hinput : t.seq.filterMap Entry.instr? = s.seq.filterMap Entry.instr?) :
    t.hardware = { s.hardware.put x.body with head := s.hardware.head + if x.isReal then 1 else 0 } := by
  have hs := h.hardware_eq
  have htake : t.seq.take t.cycle = b.map Entry.tick ++ [x] := by
    rw [htseq, hg.cycle_eq, List.take_append, List.length_map, hlen, Nat.add_sub_cancel_left, List.take_succ_cons,
      List.take_zero, List.take_of_length_le (by rw [List.length_map]; omega)]
  have hslot : t.seq[s.cycle]? = some x := by simp [htseq, ← hlen]
  have hnumber : c.programCounter = s.params.basePC + BitVec.ofNat 32 (pcIncrement * b.length) :=
    h.numbered b.length c (by simp [hseq])
  rw [hseq, ← hlen, List.take_left, ← hseq] at hs
  rw [ht.hardware_eq, hg.map_body_slotAged (k := 1) (by decide), hg.map_body_slotAged (k := 2) (by decide),
    hg.map_body_slotAged (k := 3) (by decide), hg.slotAged_one, hslot, htake, hinput, hg.cycle_eq, hg.cfg_eq,
    hg.params_eq, hs]
  simp [HwState.put, HwState.shift, HwState.nextPC, hpc, hnumber, hlen, Function.comp_def, List.countP_cons]

/-- One cycle of the hardware is the Step of a good state (R144). -/
theorem GoodStep.hardware_next (h : s.Inv) (ht : t.Inv) (hg : GoodStep s t) : s.hardware.next = t.hardware := by
  have hhead {b : List Entry} {c : Entry} {a : List Entry} (hseq : s.seq = b ++ c :: a) (hlen : b.length = s.cycle)
      {i : Instr} (hi : c.instr? = some i) : s.hardware.input[s.hardware.head]? = some i := by
    rw [h.hardware_eq, hseq, ← hlen, List.take_left]
    exact getElem?_filterMap_instr? hi
  have hg' := hg
  cases hg with
  | drains hlen =>
    have hs := h.hardware_eq
    rw [List.take_of_length_le hlen] at hs
    have htake : (s.seq.map Entry.tick).take (s.cycle + 1) = s.seq.map Entry.tick :=
      List.take_of_length_le (by rw [List.length_map]; omega)
    have hend : s.hardware.input[s.hardware.head]? = none := by
      rw [hs, ← length_filterMap_instr?]
      exact List.getElem?_eq_none le_rfl
    rw [HwState.next_of_end hend, hs, ht.hardware_eq, hg'.map_body_slotAged (k := 1) (by decide),
      hg'.map_body_slotAged (k := 2) (by decide), hg'.map_body_slotAged (k := 3) (by decide), hg'.slotAged_one]
    simp [HwState.shift, htake, hlen, Function.comp_def]
  | admits b c a hseq hlen hidle hreal hfree =>
    obtain ⟨i, hbody, hinstr⟩ := Entry.exists_of_isReal hreal
    have hmeta : c.metadata = metaOf i := by rw [Entry.metadata, hbody, Body.metadata]
    have hnot : blockedBy s.params s.cfg s.hardware.occupants (metaOf i) .notStarted = false := by
      rw [← Bool.not_eq_true, blockedBy_occupants_iff h hseq hlen (metaOf_stages i), ← hmeta]
      exact hfree
    rw [HwState.next_of_free (hhead hseq hlen hinstr) hnot,
      hg'.hardware_of_slot h ht hseq hlen rfl rfl (by simp [hseq, List.filterMap_cons])]
    simp [hbody, hreal]
  | stalls b c a hseq hlen hidle hreal hclose =>
    obtain ⟨i, hbody, hinstr⟩ := Entry.exists_of_isReal hreal
    have hmeta : c.metadata = metaOf i := by rw [Entry.metadata, hbody, Body.metadata]
    have hblocked : blockedBy s.params s.cfg s.hardware.occupants (metaOf i) .notStarted = true := by
      rw [blockedBy_occupants_iff h hseq hlen (metaOf_stages i), ← hmeta]
      exact hclose
    rw [HwState.next_of_blocked (hhead hseq hlen hinstr) hblocked,
      hg'.hardware_of_slot h ht hseq hlen rfl rfl (by simp [hseq, List.filterMap_cons])]
    simp [HwState.put, HwState.shift]

end

/-- Settles O58: a good state that has not ended takes a Step, which is one cycle of its reading. -/
theorem hardwareReadingAgrees : Obligations.HardwareReadingAgrees :=
  ⟨start_hardware, fun _ _ h hd hs => (h.goodStep hd hs).hardware_next h (h.step hs)⟩

end Sys2Proof.Machine
end

section
/-! PROOFS. The schedule (R149, R150, R152): the next position as a maximum, the bounds on the last position, and the
positions of the instructions that have been placed in a sequence of slots. -/

namespace Sys2Proof.Machine

/-! ### The next position -/

section
variable {P : Params} {cfg cfg' : Cfg} {placed : List (Nat × InstructionMeta)} {c : InstructionMeta}

theorem lt_nextPosition_iff {n : Nat} :
    n < nextPosition P cfg placed c ↔ ∃ p ∈ placed, n < p.1 + req P cfg p.2 c := by
  induction placed with
  | nil => simp [nextPosition]
  | cons p ps ih =>
    rw [nextPosition, List.foldr_cons, lt_max_iff, ← nextPosition, ih]
    simp

theorem nextPosition_le_iff {n : Nat} :
    nextPosition P cfg placed c ≤ n ↔ ∀ p ∈ placed, p.1 + req P cfg p.2 c ≤ n := by
  rw [← not_lt, lt_nextPosition_iff]
  simp

theorem req_pos (P : Params) (cfg : Cfg) (m c : InstructionMeta) : 0 < req P cfg m c := by
  unfold req
  split_ifs <;> omega

/-- A next position is after the one before it. -/
theorem lt_nextPosition_cons {n : Nat} {m : InstructionMeta} : n < nextPosition P cfg ((n, m) :: placed) c :=
  lt_nextPosition_iff.mpr ⟨(n, m), List.mem_cons_self, Nat.lt_add_of_pos_right (req_pos P cfg m c)⟩

end

/-! ### The last position -/

section
variable {P : Params} {cfg cfg' : Cfg}

theorem getLast?_placeAfter_cons (placed : List (Nat × InstructionMeta)) (c d : InstructionMeta)
    (cs : List InstructionMeta) :
    (placeAfter P cfg placed (c :: d :: cs)).getLast? =
      (placeAfter P cfg ((nextPosition P cfg placed c, c) :: placed) (d :: cs)).getLast? := by
  rw [placeAfter, placeAfter, List.getLast?_cons_cons]

/-- Distances of at most `B` put each position at most `B` after the one before it (R150). -/
theorem last_le_of_req_le {B : Nat} (hB : ∀ m c, req P cfg m c ≤ B) {placed : List (Nat × InstructionMeta)}
    {cs : List InstructionMeta} {M last : Nat} (hM : ∀ p ∈ placed, p.1 + B ≤ M)
    (hlast : (placeAfter P cfg placed cs).getLast? = some last) : last + B ≤ M + B * cs.length := by
  have hnext (c : InstructionMeta) : nextPosition P cfg placed c ≤ M :=
    nextPosition_le_iff.mpr fun p hp => (Nat.add_le_add_left (hB p.2 c) p.1).trans (hM p hp)
  induction cs generalizing placed M with
  | nil => simp [placeAfter] at hlast
  | cons c cs ih =>
    have hc := hnext c
    cases cs with
    | nil =>
      obtain rfl : nextPosition P cfg placed c = last := Option.some.inj hlast
      simpa using hc
    | cons d ds =>
      rw [getLast?_placeAfter_cons] at hlast
      have hM' : ∀ p ∈ (nextPosition P cfg placed c, c) :: placed, p.1 + B ≤ M + B :=
        List.forall_mem_cons.mpr ⟨Nat.add_le_add_right hc B, fun p hp => (hM p hp).trans (Nat.le_add_right M B)⟩
      have hle := ih hM' hlast fun e =>
        nextPosition_le_iff.mpr fun p hp => (Nat.add_le_add_left (hB p.2 e) p.1).trans (hM' p hp)
      rw [List.length_cons, Nat.mul_succ]
      omega

/-- Smaller distances give smaller positions (R152). -/
theorem placeAfter_mono (hreq : ∀ m c, req P cfg m c ≤ req P cfg' m c) {placed placed' : List (Nat × InstructionMeta)}
    (hplaced : List.Forall₂ (fun p p' => p.1 ≤ p'.1 ∧ p.2 = p'.2) placed placed') (cs : List InstructionMeta) :
    List.Forall₂ (· ≤ ·) (placeAfter P cfg placed cs) (placeAfter P cfg' placed' cs) := by
  have hnext {l l' : List (Nat × InstructionMeta)} (hl : List.Forall₂ (fun p p' => p.1 ≤ p'.1 ∧ p.2 = p'.2) l l')
      (c : InstructionMeta) : nextPosition P cfg l c ≤ nextPosition P cfg' l' c := by
    induction hl with
    | nil => exact le_rfl
    | cons h _ ih =>
      obtain ⟨hpos, hmeta⟩ := h
      exact max_le_max (Nat.add_le_add hpos (hmeta ▸ hreq _ c)) ih
  induction cs generalizing placed placed' with
  | nil => exact .nil
  | cons c cs ih => exact .cons (hnext hplaced c) (ih (.cons ⟨hnext hplaced c, rfl⟩ hplaced))

/-- One more than the last of a list of positions, 0 for no position: the number of slots they need. -/
def slotsOf (l : List Nat) : Nat := (l.getLast?.map (· + 1)).getD 0

theorem slotsOf_of_getLast? {l : List Nat} {last : Nat} (h : l.getLast? = some last) : slotsOf l = last + 1 := by
  simp [slotsOf, h]

/-- The instructions that are left take at least one slot each from the first position that is free. -/
theorem le_slotsOf_placeAfter {placed : List (Nat × InstructionMeta)} {c : InstructionMeta}
    {cs : List InstructionMeta} {n : Nat} (hn : n ≤ nextPosition P cfg placed c) :
    n + (c :: cs).length ≤ slotsOf (placeAfter P cfg placed (c :: cs)) := by
  induction cs generalizing placed c n with
  | nil => exact Nat.succ_le_succ hn
  | cons d ds ih =>
    have hnext := ih (Nat.succ_le_of_lt (lt_nextPosition_cons (P := P) (cfg := cfg) (placed := placed) (c := d)
      (m := c) (n := nextPosition P cfg placed c)))
    rw [slotsOf, getLast?_placeAfter_cons, ← slotsOf]
    simp only [List.length_cons] at hnext ⊢
    omega

theorem slotsOf_le_of_forall₂ {l l' : List Nat} (h : List.Forall₂ (· ≤ ·) l l') : slotsOf l ≤ slotsOf l' := by
  induction h with
  | nil => exact le_rfl
  | cons hx hl ih =>
    cases hl with
    | nil => simpa [slotsOf] using hx
    | cons hy hl => simpa [slotsOf] using ih

/-- The number of slots of the schedule (R146, R149). -/
def finalSlots (P : Params) (cfg : Cfg) (instrs : List Instr) : Nat := slotsOf (schedule P cfg instrs)

@[simp] theorem finalSlots_nil : finalSlots P cfg [] = 0 := rfl

theorem finalSlots_mono (hreq : ∀ m c, req P cfg m c ≤ req P cfg' m c) (instrs : List Instr) :
    finalSlots P cfg instrs ≤ finalSlots P cfg' instrs :=
  slotsOf_le_of_forall₂ (placeAfter_mono hreq .nil _)

theorem finalSlots_le {B : Nat} (hB : ∀ m c, req P cfg m c ≤ B) (instrs : List Instr) :
    finalSlots P cfg instrs - 1 ≤ B * (instrs.length - 1) := by
  cases hlast : (schedule P cfg instrs).getLast? with
  | none => simp [finalSlots, slotsOf, hlast]
  | some last =>
    have hle := last_le_of_req_le (M := 0) hB (fun p hp => absurd hp List.not_mem_nil) hlast
    rw [List.length_map, Nat.zero_add] at hle
    rw [finalSlots, slotsOf_of_getLast? hlast, Nat.add_sub_cancel, Nat.mul_sub_one]
    omega

theorem scheduleFits_iff {instrs : List Instr} :
    ScheduleFits P cfg instrs ↔ Params.fits P (finalSlots P cfg instrs) = true := by
  unfold ScheduleFits finalSlots slotsOf
  cases (schedule P cfg instrs).getLast? with
  | none => simp [Params.fits]
  | some last => simp [fits_succ_iff]

end

/-! ### The instructions placed in a sequence of slots -/

/-- The real entries of a sequence with their positions, the last first. -/
def placed (l : List Entry) : List (Nat × InstructionMeta) :=
  ((l.zipIdx.filter fun x => x.1.isReal).map fun x => (x.2, x.1.metadata)).reverse

theorem realPositions_eq (l : List Entry) : realPositions l = ((placed l).map Prod.fst).reverse := by
  simp [realPositions, placed, Function.comp_def]

theorem placed_concat (l : List Entry) (x : Entry) :
    placed (l ++ [x]) = if x.isReal then (l.length, x.metadata) :: placed l else placed l := by
  cases hx : x.isReal <;> simp [placed, List.zipIdx_append, List.filter_append, hx]

theorem placed_map {f : Entry → Entry} (hreal : ∀ e, (f e).isReal = e.isReal)
    (hmeta : ∀ e, (f e).metadata = e.metadata) (l : List Entry) : placed (l.map f) = placed l := by
  induction l using List.reverseRecOn with
  | nil => rfl
  | append_singleton l x ih =>
    rw [List.map_append, List.map_singleton, placed_concat, placed_concat, ih, hreal, hmeta, List.length_map]

theorem mem_placed {l : List Entry} {p : Nat × InstructionMeta} :
    p ∈ placed l ↔ ∃ e, l[p.1]? = some e ∧ e.isReal = true ∧ e.metadata = p.2 := by
  obtain ⟨j, m⟩ := p
  simp [placed, List.mem_zipIdx_iff_getElem?, and_assoc, and_comm, and_left_comm]

/-- A bubble blocks at no distance (R126). -/
theorem req_bubble (P : Params) (cfg : Cfg) (c : InstructionMeta) : req P cfg bubbleMeta c = 1 := by
  have hraw : rawApplies P c bubbleMeta = false := by
    rw [← Bool.not_eq_true, rawApplies_iff]
    rintro ⟨-, r, -, hdest, -⟩
    cases hdest
  simp [req, hraw, inert_bubbleMeta.control]

/-- A candidate behind `b` is too close to something exactly when its next position is further on (R149). -/
theorem tooClose_iff {P : Params} {cfg : Cfg} {b : List Entry} {c : InstructionMeta} :
    TooClose P cfg b c ↔ b.length < nextPosition P cfg (placed b) c := by
  rw [lt_nextPosition_iff]
  constructor
  · rintro ⟨j, e, hj, hclose⟩
    obtain ⟨hlt, -⟩ := List.getElem?_eq_some_iff.mp hj
    cases hreal : e.isReal with
    | true => exact ⟨(j, e.metadata), mem_placed.mpr ⟨e, hj, hreal, rfl⟩, by simp only; omega⟩
    | false =>
      have hmeta : e.metadata = bubbleMeta := by
        cases hb : e.body with
        | real i => simp [Entry.isReal, hb] at hreal
        | bubble => rw [Entry.metadata, hb, Body.metadata]
      rw [hmeta, req_bubble] at hclose
      omega
  · rintro ⟨⟨j, m⟩, hp, hclose⟩
    obtain ⟨e, hj, -, rfl⟩ := mem_placed.mp hp
    obtain ⟨hlt, -⟩ := List.getElem?_eq_some_iff.mp hj
    exact ⟨j, e, hj, by simp only at hclose; omega⟩

end Sys2Proof.Machine
end

section
/-! PROOFS. The run against the schedule (R146, R148 to R150). In every state of a run the positions of the instructions
already placed, with the schedule of the rest after them, are the schedule of the program: a Step only moves one
instruction from the second part to the first. The number of slots therefore never passes that of the schedule, and
equals it at the end. -/

namespace Sys2Proof.Machine

/-! ### The plan of a state -/

/-- The slots whose turn has come. -/
def State.issued (s : State) : List Entry := s.seq.take s.cycle

/-- The slots whose turn has not come. -/
def State.pending (s : State) : List Entry := s.seq.drop s.cycle

/-- The positions of the instructions already placed, and the schedule of the pending ones after them. -/
def State.plan (s : State) : List Nat :=
  realPositions s.issued ++ placeAfter s.params s.cfg (placed s.issued) (s.pending.map Entry.metadata)

/-- A state of the run of a program. -/
structure OnSchedule (instrs : List Instr) (cfg : Cfg) (P : Params) (s : State) : Prop where
  inv : s.Inv
  cfg_eq : s.cfg = cfg
  params_eq : s.params = P
  program : s.seq.filterMap Entry.instr? = instrs
  plan_eq : s.plan = schedule P cfg instrs
  /-- The slot whose turn it is stands no later than its scheduled position. -/
  due : ∀ c a, s.pending = c :: a → s.cycle ≤ nextPosition P cfg (placed s.issued) c.metadata
  /-- A bubble only ever goes in before an instruction (R140). -/
  last_real : ∀ e, s.seq.getLast? = some e → e.isReal = true

section
variable {s t : State} {b a : List Entry} {c x : Entry}

theorem State.issued_of_append (hseq : s.seq = b ++ a) (hlen : b.length = s.cycle) : s.issued = b := by
  rw [State.issued, hseq, ← hlen, List.take_left]

theorem State.pending_of_append (hseq : s.seq = b ++ a) (hlen : b.length = s.cycle) : s.pending = a := by
  rw [State.pending, hseq, ← hlen, List.drop_left]

theorem State.issued_of_length_le (h : s.seq.length ≤ s.cycle) : s.issued = s.seq := List.take_of_length_le h

theorem State.pending_of_length_le (h : s.seq.length ≤ s.cycle) : s.pending = [] := List.drop_eq_nil_of_le h

theorem realPositions_map {f : Entry → Entry} (hreal : ∀ e, (f e).isReal = e.isReal)
    (hmeta : ∀ e, (f e).metadata = e.metadata) (l : List Entry) : realPositions (l.map f) = realPositions l := by
  rw [realPositions_eq, realPositions_eq, placed_map hreal hmeta]

theorem placed_tick (l : List Entry) : placed (l.map Entry.tick) = placed l :=
  placed_map Entry.isReal_tick Entry.metadata_tick l

theorem realPositions_tick (l : List Entry) : realPositions (l.map Entry.tick) = realPositions l :=
  realPositions_map Entry.isReal_tick Entry.metadata_tick l

theorem realPositions_concat (l : List Entry) (x : Entry) :
    realPositions (l ++ [x]) = if x.isReal then realPositions l ++ [l.length] else realPositions l := by
  cases hx : x.isReal <;> simp [realPositions_eq, placed_concat, hx]

/-! Which slots have been issued after a Step: all, or also the slot whose turn it was, with `x` in it. -/

theorem issued_of_drains (hlen : s.seq.length ≤ s.cycle) :
    State.issued { s with seq := s.seq.map Entry.tick, cycle := s.cycle + 1 } = s.issued.map Entry.tick := by
  rw [State.issued_of_length_le hlen]
  exact List.take_of_length_le (by rw [List.length_map]; exact Nat.le_succ_of_le hlen)

theorem pending_of_drains (hlen : s.seq.length ≤ s.cycle) :
    State.pending { s with seq := s.seq.map Entry.tick, cycle := s.cycle + 1 } = [] :=
  List.drop_eq_nil_of_le (by rw [List.length_map]; exact Nat.le_succ_of_le hlen)

theorem issued_of_slot (hlen : b.length = s.cycle) :
    State.issued { s with seq := b.map Entry.tick ++ x :: a, cycle := s.cycle + 1 } = b.map Entry.tick ++ [x] :=
  State.issued_of_append (a := a) (by simp) (by simp [hlen])

theorem pending_of_slot (hlen : b.length = s.cycle) :
    State.pending { s with seq := b.map Entry.tick ++ x :: a, cycle := s.cycle + 1 } = a :=
  State.pending_of_append (b := b.map Entry.tick ++ [x]) (by simp) (by simp [hlen])

end

/-! ### The run stays on the schedule -/

theorem start_onSchedule (instrs : List Instr) (cfg : Cfg) (P : Params) :
    OnSchedule instrs cfg P (start instrs cfg P) where
  inv := start_inv instrs cfg P
  cfg_eq := rfl
  params_eq := rfl
  program := start_instrs instrs cfg P
  plan_eq := by
    have hmeta : (start instrs cfg P).seq.map Entry.metadata = instrs.map metaOf := by
      apply List.ext_getElem?
      intro i
      simp [start, resetEntry, Entry.metadata, Body.metadata, Function.comp_def]
    exact congrArg (placeAfter P cfg []) hmeta
  due := fun _ _ _ => Nat.zero_le _
  last_real := by
    intro e he
    obtain ⟨i, hi, rfl⟩ := List.mem_mapIdx.mp (List.mem_of_getLast? he)
    rfl

namespace OnSchedule

variable {instrs : List Instr} {cfg : Cfg} {P : Params} {s t : State}

theorem goodStep (h : OnSchedule instrs cfg P s) (hg : GoodStep s t) (ht : t.Inv) : OnSchedule instrs cfg P t := by
  obtain ⟨hinv, hcfg, hparams, hprogram, hplan, hdue, hlast⟩ := h
  subst hcfg hparams
  refine ⟨ht, hg.cfg_eq, hg.params_eq, ?_, ?_, ?_, ?_⟩
  · rw [← hprogram]
    cases hg with
    | drains => simp
    | admits b c a hseq | stalls b c a hseq => simp [hseq, List.filterMap_cons]
  · rw [← hplan, State.plan, State.plan, hg.cfg_eq, hg.params_eq]
    cases hg with
    | drains hlen =>
      rw [issued_of_drains hlen, pending_of_drains hlen, State.pending_of_length_le hlen, realPositions_tick, placed_tick]
    | admits b c a hseq hlen hidle hreal hfree =>
      rw [State.issued_of_append hseq hlen, State.pending_of_append hseq hlen] at hdue ⊢
      have hposition : nextPosition s.params s.cfg (placed b) c.metadata = b.length := by
        rw [tooClose_iff] at hfree
        have hle := hdue c a rfl
        omega
      rw [issued_of_slot hlen, pending_of_slot hlen, realPositions_concat, placed_concat, realPositions_tick, placed_tick,
        List.length_map, Entry.isReal_enter, if_pos hreal, if_pos hreal, Entry.metadata_enter, List.map_cons, placeAfter,
        hposition, List.append_assoc, List.singleton_append]
    | stalls b c a hseq hlen hidle hreal hclose =>
      rw [issued_of_slot hlen, pending_of_slot hlen, State.issued_of_append hseq hlen, State.pending_of_append hseq hlen,
        realPositions_concat, placed_concat, realPositions_tick, placed_tick, isReal_newBubble, List.map_map]
      simp [Function.comp_def]
  · intro d r hd
    cases hg with
    | drains hlen =>
      rw [pending_of_drains hlen] at hd
      cases hd
    | admits b c a hseq hlen hidle hreal hfree =>
      rw [issued_of_slot hlen, placed_concat, placed_tick, List.length_map, Entry.isReal_enter, if_pos hreal, hlen]
      exact lt_nextPosition_cons
    | stalls b c a hseq hlen hidle hreal hclose =>
      rw [pending_of_slot hlen, List.map_cons] at hd
      obtain ⟨rfl, -⟩ := List.cons.inj hd
      rw [issued_of_slot hlen, placed_concat, placed_tick, isReal_newBubble, Entry.metadata_shift]
      rw [tooClose_iff, hlen] at hclose
      exact hclose
  · intro e he
    cases hg with
    | drains =>
      obtain ⟨e₀, he₀, rfl⟩ := Option.map_eq_some_iff.mp (List.getLast?_map ▸ he)
      rw [Entry.isReal_tick]
      exact hlast e₀ he₀
    | admits b c a hseq hlen hidle hreal =>
      rw [List.getLast?_append_of_ne_nil _ (List.cons_ne_nil _ _)] at he
      obtain rfl | hmem := List.mem_cons.mp (List.mem_of_getLast? he)
      · exact hreal
      · exact hinv.isReal_of_not_started (by simp [hseq, hmem]) (hidle e (List.mem_cons_of_mem c hmem)).started
    | stalls b c a hseq hlen hidle =>
      rw [List.getLast?_append_of_ne_nil _ (List.cons_ne_nil _ _), List.map_cons, List.getLast?_cons_cons,
        ← List.map_cons] at he
      obtain ⟨e₀, hmem, rfl⟩ := List.mem_map.mp (List.mem_of_getLast? he)
      rw [Entry.isReal_shift]
      exact hinv.isReal_of_not_started (hseq ▸ List.mem_append_right b hmem) (hidle e₀ hmem).started

theorem of_step (h : OnSchedule instrs cfg P s) (hs : step s = .next t) : OnSchedule instrs cfg P t := by
  cases hd : s.done with
  | true => exact eq_of_step_of_done hs hd ▸ h
  | false => exact h.goodStep (h.inv.goodStep hd hs) (h.inv.step hs)

/-! ### The number of slots -/

/-- Where instructions are pending, the slots with them need no more than the schedule has. -/
theorem length_le_of_pending (h : OnSchedule instrs cfg P s) {b a : List Entry} {c : Entry} {n : Nat}
    (hseq : s.seq = b ++ c :: a) (hlen : b.length = s.cycle) (hn : n ≤ nextPosition P cfg (placed b) c.metadata) :
    n + (a.length + 1) ≤ finalSlots P cfg instrs := by
  have hplan := h.plan_eq
  rw [State.plan, State.issued_of_append hseq hlen, State.pending_of_append hseq hlen, h.cfg_eq, h.params_eq] at hplan
  have hle := le_slotsOf_placeAfter (cs := a.map Entry.metadata) hn
  rw [List.length_cons, List.length_map] at hle
  refine hle.trans_eq ?_
  rw [finalSlots, ← hplan, slotsOf, slotsOf, List.getLast?_append_of_ne_nil]
  · rfl
  · simp [placeAfter]

/-- Once all is issued the slots are those of the schedule, and the last of them is the last instruction's. -/
theorem length_eq_of_issued (h : OnSchedule instrs cfg P s) (hlen : s.seq.length ≤ s.cycle) :
    realPositions s.seq = schedule P cfg instrs ∧ s.seq.length = finalSlots P cfg instrs := by
  have hplan := h.plan_eq
  rw [State.plan, State.issued_of_length_le hlen, State.pending_of_length_le hlen, List.map_nil, placeAfter,
    List.append_nil] at hplan
  refine ⟨hplan, ?_⟩
  rw [finalSlots, ← hplan]
  obtain hnil | ⟨l, x, hx⟩ := s.seq.eq_nil_or_concat'
  · rw [hnil]
    rfl
  · have hreal := h.last_real x (by simp [hx])
    rw [hx, realPositions_concat, if_pos hreal]
    simp [slotsOf]

theorem length_le (h : OnSchedule instrs cfg P s) : s.seq.length ≤ finalSlots P cfg instrs := by
  obtain hlt | hle := Nat.lt_or_ge s.cycle s.seq.length
  · obtain ⟨c, a, hpending⟩ := List.exists_cons_of_length_pos (l := s.pending) (by simp [State.pending, hlt])
    have hseq : s.seq = s.issued ++ c :: a := by
      rw [← hpending, State.issued, State.pending, List.take_append_drop]
    have hissued : s.issued.length = s.cycle := by
      rw [State.issued, List.length_take, min_eq_left hlt.le]
    have hle := h.length_le_of_pending hseq hissued (h.due c a hpending)
    rw [hseq, List.length_append, List.length_cons, hissued]
    exact hle
  · exact (h.length_eq_of_issued hle).2.le

end OnSchedule

end Sys2Proof.Machine
end

section
/-! PROOFS. Whole runs (R110, R123, R146, R148 to R154). A run from an aligned base is refused exactly when its schedule does
not fit, and else ends on the schedule; the positions, the bounds, the report and the comparison of configurations are
read off the schedule. -/

namespace Sys2Proof.Machine

/-! ### Running to the end -/

section
variable {k : Nat} {s t : State}

theorem runToEnd_of_done (hd : s.done = true) : runToEnd k s = .next s := by
  cases k <;> simp [runToEnd, hd]

theorem runToEnd_of_next (hd : s.done = false) (hs : step s = .next t) : runToEnd (k + 1) s = runToEnd k t := by
  simp [runToEnd, hd, hs]

theorem runToEnd_of_refused {r : Refusal} (hd : s.done = false) (hs : step s = .refused r) :
    runToEnd (k + 1) s = .refused r := by
  simp [runToEnd, hd, hs]

/-- What holds at the start and is kept by every step holds of the state a run answers. -/
theorem runToEnd_induction {I : State → Prop} (hstep : ∀ s t, I s → step s = .next t → I t) (hs : I s)
    (h : runToEnd k s = .next t) : I t := by
  induction k generalizing s with
  | zero => exact Host.Outcome.next.inj h ▸ hs
  | succ k ih =>
    cases hd : s.done with
    | true => exact Host.Outcome.next.inj ((runToEnd_of_done hd).symm.trans h) ▸ hs
    | false =>
      cases hu : step s with
      | next u => exact ih (hstep s u hs hu) (runToEnd_of_next hd hu ▸ h)
      | fault r => cases r
      | refused r => simp [runToEnd_of_refused hd hu] at h

end

namespace OnSchedule

variable {instrs : List Instr} {cfg : Cfg} {P : Params} {s t : State}

theorem of_runToEnd {k : Nat} (h : OnSchedule instrs cfg P s) (hs : runToEnd k s = .next t) :
    OnSchedule instrs cfg P t :=
  runToEnd_induction (fun _ _ h => h.of_step) h hs

/-- At the end of the run every slot has been issued. -/
theorem length_le_cycle_of_done (h : OnSchedule instrs cfg P s) (hd : s.done = true) : s.seq.length ≤ s.cycle := by
  obtain hnil | hle := h.inv.done_iff_cycle.mp hd
  · simp [hnil]
  · omega

/-- The cycles of an ended run (R148). -/
theorem cycle_of_done (h : OnSchedule instrs cfg P s) (hd : s.done = true) :
    s.cycle = if s.seq = [] then 0 else s.seq.length + 4 := by
  have hcounter := h.inv.counter
  obtain hnil | hle := h.inv.done_iff_cycle.mp hd
  · rw [if_pos hnil] at hcounter ⊢
    exact Nat.le_zero.mp hcounter
  · rw [nStages] at hcounter
    split_ifs at hcounter ⊢ <;> omega

theorem original_eq (h : OnSchedule instrs cfg P s) : s.original = instrs.length := by
  rw [State.original, ← length_filterMap_instr?, h.program]

theorem length_le_bound (h : OnSchedule instrs cfg P s) : s.seq.length ≤ 3 * instrs.length := by
  have hle := h.length_le
  have hbound := finalSlots_le (req_le_three P cfg) instrs
  cases instrs with
  | nil => simpa using hle
  | cons i is =>
    rw [List.length_cons] at hbound ⊢
    omega

/-- The bound on the bubbles (R150). -/
theorem bubbles_le (h : OnSchedule instrs cfg P s) : s.bubbles ≤ 2 * (instrs.length - 1) := by
  have hle := h.length_le
  have hbound := finalSlots_le (req_le_three P cfg) instrs
  rw [State.bubbles, State.final, h.original_eq]
  cases instrs with
  | nil => simpa using hle
  | cons i is =>
    rw [List.length_cons] at hbound ⊢
    omega

/-- The bound on the number of Steps is enough (R148, R150). -/
theorem cycle_lt_of_running (h : OnSchedule instrs cfg P s) (hd : s.done = false) :
    s.cycle < stepBound instrs.length := by
  obtain ⟨-, hlt⟩ := not_or.mp fun hend => Bool.false_ne_true (hd.symm.trans (h.inv.done_iff_cycle.mpr hend))
  have hle := h.length_le_bound
  rw [stepBound]
  omega

/-! ### Refusals (R110) -/

/-- The bubble of a blocked candidate is in the schedule. -/
theorem succ_length_le_of_blocked (h : OnSchedule instrs cfg P s) {c : Cut} (hc : s.advanced.candidate? = some c)
    (hb : s.advanced.blocked c.cand.metadata c.cand.currentStage = true) :
    s.seq.length + 1 ≤ finalSlots P cfg instrs := by
  obtain ⟨b, hseq, hbefore, hlen, -⟩ := h.inv.cut_at_cycle hc
  have hclose := (h.inv.blocked_iff hc).mp hb
  rw [hbefore, tooClose_map Entry.metadata_advance, tooClose_iff, h.cfg_eq, h.params_eq] at hclose
  have hle := h.length_le_of_pending hseq hlen hclose
  simp only [hseq, List.length_append, List.length_cons]
  omega

/-- A run whose schedule fits is refused by no step. -/
theorem exists_step (h : OnSchedule instrs cfg P s) (ha : P.basePC.toNat % 4 = 0) (hfits : ScheduleFits P cfg instrs) :
    ∃ t, step s = .next t := by
  have hroom {n : Nat} (hn : n ≤ finalSlots P cfg instrs) : Params.fits s.params n = true := by
    rw [h.params_eq]
    exact fits_mono hn (scheduleFits_iff.mp hfits)
  cases hs : step s with
  | next t => exact ⟨t, rfl⟩
  | fault r => cases r
  | refused r =>
    obtain hr | ⟨-, -, hi⟩ := step_eq_refused_iff.mp hs
    · obtain ⟨hna, -⟩ | ⟨-, hnofit, -⟩ := refusal?_eq_some_iff.mp hr
      · exact absurd (h.params_eq ▸ ha) hna
      · exact absurd (hroom h.length_le) (Bool.eq_false_iff.mp hnofit)
    · obtain ⟨-, hnofit, c, hc, hb⟩ := issue_eq_refused_iff.mp hi
      have hlen : s.advanced.seq.length = s.seq.length := List.length_map ..
      rw [hlen] at hnofit
      exact absurd (hroom (h.succ_length_le_of_blocked hc hb)) (Bool.eq_false_iff.mp hnofit)

/-- The slots after a step are below the offset 2^32 (R39). -/
theorem fits_of_step (h : OnSchedule instrs cfg P s) (hd : s.done = false) (hs : step s = .next t) :
    Params.fits P t.seq.length = true := by
  obtain ⟨hrefusal, -⟩ := step_next hs
  obtain ⟨-, hfits⟩ := refusal?_eq_none.mp hrefusal
  rw [← h.params_eq]
  cases h.inv.goodStep hd hs with
  | drains => simpa using hfits
  | admits b c a hseq => simpa [hseq] using hfits
  | stalls b c a hseq hlen hidle hreal hclose hroom => simpa [hseq, Nat.add_assoc] using hroom

/-- A run that has ended within range has a schedule that fits. -/
theorem scheduleFits_of_done (h : OnSchedule instrs cfg P s) (hd : s.done = true)
    (hfits : Params.fits P s.seq.length = true) : ScheduleFits P cfg instrs := by
  rw [scheduleFits_iff, ← (h.length_eq_of_issued (h.length_le_cycle_of_done hd)).2]
  exact hfits

theorem runToEnd_of_fits (h : OnSchedule instrs cfg P s) (ha : P.basePC.toNat % 4 = 0)
    (hfits : ScheduleFits P cfg instrs) {k : Nat} (hk : stepBound instrs.length ≤ k + s.cycle) :
    ∃ t, runToEnd k s = .next t ∧ t.done = true := by
  induction k generalizing s with
  | zero =>
    refine ⟨s, rfl, ?_⟩
    rw [← Bool.not_eq_false]
    exact fun hd => absurd (h.cycle_lt_of_running hd) (by omega)
  | succ k ih =>
    cases hd : s.done with
    | true => exact ⟨s, runToEnd_of_done hd, hd⟩
    | false =>
      obtain ⟨u, hu⟩ := h.exists_step ha hfits
      rw [runToEnd_of_next hd hu]
      exact ih (h.of_step hu) (by rw [step_cycle_of_running hu hd]; omega)

theorem runToEnd_of_not_fits (h : OnSchedule instrs cfg P s) (ha : P.basePC.toNat % 4 = 0)
    (hfits : ¬ScheduleFits P cfg instrs) (hd : s.done = false) {k : Nat}
    (hk : stepBound instrs.length ≤ k + s.cycle) : runToEnd k s = .refused .pcOutOfRange := by
  induction k generalizing s with
  | zero => exact absurd (h.cycle_lt_of_running hd) (by omega)
  | succ k ih =>
    cases hs : step s with
    | next u =>
      have hdu : u.done = false := by
        rw [← Bool.not_eq_true]
        exact fun hdu => hfits ((h.of_step hs).scheduleFits_of_done hdu (h.fits_of_step hd hs))
      rw [runToEnd_of_next hd hs]
      exact ih (h.of_step hs) hdu (by rw [step_cycle_of_running hs hd]; omega)
    | fault r => cases r
    | refused r =>
      rw [runToEnd_of_refused hd hs]
      obtain ⟨hna, -⟩ | ⟨-, rfl, -⟩ := (stepIsRefusedInExactlyTwoCases s r).mp hs
      · exact absurd (h.params_eq ▸ ha) hna
      · rfl

end OnSchedule

/-- A program whose schedule does not fit is not empty, so its run has not ended at the start. -/
theorem start_not_done {instrs : List Instr} {cfg : Cfg} {P : Params} (hfits : ¬ScheduleFits P cfg instrs) :
    (start instrs cfg P).done = false := by
  cases instrs with
  | nil => exact absurd (scheduleFits_iff.mpr rfl) hfits
  | cons i is => simp [start, State.done, resetEntry]

/-- Settles O54: the range case and the ending one exclude each other. -/
theorem everyRunEndsOnTime : Obligations.EveryRunEndsOnTime := by
  intro instrs cfg P ha
  have hstart := start_onSchedule instrs cfg P
  constructor
  · intro r
    by_cases hfits : ScheduleFits P cfg instrs
    · obtain ⟨t, ht, -⟩ := hstart.runToEnd_of_fits ha hfits (k := stepBound instrs.length) (Nat.le_add_right ..)
      simp [ht, hfits]
    · rw [hstart.runToEnd_of_not_fits ha hfits (start_not_done hfits) (Nat.le_add_right ..)]
      simp [hfits, eq_comm (b := r)]
  · intro hfits
    obtain ⟨t, ht, hd⟩ := hstart.runToEnd_of_fits ha hfits (k := stepBound instrs.length) (Nat.le_add_right ..)
    have hon := hstart.of_runToEnd ht
    exact ⟨t, ht, hd, hon.cycle_of_done hd, hon.original_eq, hon.bubbles_le⟩

/-- Settles O55. -/
theorem finalPositionsAreTheSchedule : Obligations.FinalPositionsAreTheSchedule := by
  intro instrs cfg P k t ht hd
  have hon := (start_onSchedule instrs cfg P).of_runToEnd ht
  exact (hon.length_eq_of_issued (hon.length_le_cycle_of_done hd)).1

/-! ### The report (R153, R154) -/

/-- What an ended state of a run reports. -/
theorem OnSchedule.report {instrs : List Instr} {cfg : Cfg} {P : Params} {s : State} (h : OnSchedule instrs cfg P s)
    (hd : s.done = true) : ∃ r, s.report? = some r ∧ r.trace = s.trace ∧ r.cycles = s.cycle ∧ r.summary =
      { original := instrs.length, final := s.trace.length, bubbles := s.trace.length - instrs.length
        overhead := overhead (s.trace.length - instrs.length) instrs.length
        label := modeLabel cfg, forwarding := cfg.forwarding } := by
  have hfinal : s.final = s.trace.length := (List.length_map ..).symm
  refine ⟨_, by rw [State.report?, if_pos hd], rfl, rfl, ?_⟩
  rw [State.summary, State.bubbles, h.original_eq, hfinal, h.cfg_eq]

section
variable {instrs : List Instr} {cfg : Cfg} {P : Params}

theorem run_of_misaligned (ha : P.basePC.toNat % 4 ≠ 0) : run instrs cfg P = .refused .misalignedBasePC := by
  have hr : (start instrs cfg P).refusal? = some .misalignedBasePC := refusal?_eq_some_iff.mpr (.inl ⟨ha, rfl⟩)
  rw [run, hr]

theorem run_of_not_fits (ha : P.basePC.toNat % 4 = 0) (hfits : ¬ScheduleFits P cfg instrs) :
    run instrs cfg P = .refused .pcOutOfRange := by
  cases hr : (start instrs cfg P).refusal? with
  | none =>
    have hend := (start_onSchedule instrs cfg P).runToEnd_of_not_fits ha hfits (start_not_done hfits)
      (Nat.le_add_right (stepBound instrs.length) _)
    rw [run, hr, hend]
  | some r =>
    obtain ⟨hna, -⟩ | ⟨-, -, rfl⟩ := refusal?_eq_some_iff.mp hr
    · exact absurd ha hna
    · rw [run, hr]

theorem run_of_fits (ha : P.basePC.toNat % 4 = 0) (hfits : ScheduleFits P cfg instrs) :
    ∃ t, run instrs cfg P = .next t.report? ∧ t.done = true ∧ OnSchedule instrs cfg P t := by
  have hstart := start_onSchedule instrs cfg P
  obtain ⟨t, ht, hd⟩ := hstart.runToEnd_of_fits ha hfits (Nat.le_add_right (stepBound instrs.length) _)
  have hr : (start instrs cfg P).refusal? = none :=
    refusal?_eq_none.mpr ⟨aligned_iff.mpr ha, fits_mono hstart.length_le (scheduleFits_iff.mp hfits)⟩
  exact ⟨t, by rw [run, hr, ht], hd, hstart.of_runToEnd ht⟩

end

/-- Settles O59: of the three cases one holds, and each gives the answer of the run. -/
theorem runReportsTraceAndSummary : Obligations.RunReportsTraceAndSummary := by
  intro instrs cfg P
  constructor
  · intro r
    by_cases ha : P.basePC.toNat % 4 = 0
    · by_cases hfits : ScheduleFits P cfg instrs
      · obtain ⟨t, ht, -⟩ := run_of_fits ha hfits
        simp [ht, ha, hfits]
      · simp [run_of_not_fits ha hfits, ha, hfits, eq_comm (b := r)]
    · simp [run_of_misaligned ha, ha, eq_comm (b := r)]
  · intro ha hfits
    obtain ⟨t, ht, hd, hon⟩ := run_of_fits ha hfits
    obtain ⟨r, hr, htrace, hcycles, hsummary⟩ := hon.report hd
    refine ⟨r, by rw [ht, hr], fun k x hk => ?_, ?_, ?_, ?_⟩
    · rw [htrace, State.trace, List.getElem?_map, Option.map_eq_some_iff] at hk
      obtain ⟨e, he, rfl⟩ := hk
      rw [← hon.params_eq]
      exact hon.inv.numbered k e he
    · rw [htrace, State.trace, List.filterMap_map, ← hon.program]
      rfl
    · rw [hsummary, htrace]
      rfl
    · rw [hcycles, htrace, hon.cycle_of_done hd, State.trace]
      simp

/-! ### Comparing configurations (R151, R152) -/

/-- Without forwarding the required distances are no smaller (R149). -/
theorem req_forwarding_le (P : Params) (cfg : Cfg) (m c : InstructionMeta) :
    req P { cfg with forwarding := true } m c ≤ req P { cfg with forwarding := false } m c := by
  have hrow : rawDistance P.cmp true m.produceStage ≤ rawDistance P.cmp false m.produceStage := by
    cases P.cmp with
    | strict => exact Nat.le_succ 1
    | nonStrict =>
      simp only [rawDistance]
      split <;> decide
  refine max_le_max ?_ le_rfl
  simp only
  split_ifs
  · exact hrow
  · exact le_rfl

/-- Under the strict policy forwarding leaves of the distances what the control switch asks for (R149). -/
theorem req_strict_forwarding {P : Params} (hP : P.cmp = .strict) (cfg : Cfg) (m c : InstructionMeta) :
    req P { cfg with forwarding := true } m c = req P { cfg with dataHazardEnabled := false } m c := by
  simp [req, hP, rawDistance]

theorem req_control_off {P : Params} {cfg : Cfg} (hd : cfg.dataHazardEnabled = false)
    (hc : cfg.controlHazardEnabled = false) (m c : InstructionMeta) : req P cfg m c = 1 := by
  simp [req, hd, hc]

theorem OnSchedule.bubbles_of_done {instrs : List Instr} {cfg : Cfg} {P : Params} {s : State}
    (h : OnSchedule instrs cfg P s) (hd : s.done = true) : s.bubbles = finalSlots P cfg instrs - instrs.length := by
  rw [State.bubbles, h.original_eq, State.final, (h.length_eq_of_issued (h.length_le_cycle_of_done hd)).2]

/-- Distances of 1 leave no bubble. -/
theorem finalSlots_le_length {P : Params} {cfg : Cfg} (hreq : ∀ m c, req P cfg m c ≤ 1) (instrs : List Instr) :
    finalSlots P cfg instrs ≤ instrs.length := by
  have hle := finalSlots_le hreq instrs
  cases instrs with
  | nil => simp
  | cons i is =>
    rw [List.length_cons] at hle ⊢
    omega

/-- RAW with forwarding is never ahead of the candidate under the strict policy (R152). -/
theorem raw_strict_forwarding {s : State} {c : Cut} (h : s.Inv) (hP : s.params.cmp = .strict)
    (hc : s.advanced.candidate? = some c) :
    raw s.params true s.advanced.inflight c.cand.metadata c.cand.currentStage = false := by
  have hstage : c.cand.currentStage = .notStarted := by
    obtain ⟨-, -, -, -, hidle⟩ := h.cut_at_cycle hc
    exact (hidle c.cand List.mem_cons_self).stage
  rw [hstage, ← Bool.not_eq_true, raw_iff]
  rintro ⟨hbranch, p, hp, hraw⟩
  obtain ⟨j, hj⟩ := h.getElem_before_of_mem_inflight hc hp
  have hahead := h.ahead hc hj
  obtain ⟨-, hclose⟩ := (hahead.raw_iff (P := s.params) (fwd := true) (metadata_stages c.cand) (metadata_stages _)).mp
    (raw_iff.mpr ⟨hbranch, p, List.mem_singleton_self p, hraw⟩)
  rw [hP, rawDistance] at hclose
  have hpos := hahead.pos
  omega

/-! A run under another configuration with the same distances has the same slots in every cycle. -/

/-- The state under another configuration word. -/
def State.withCfg (s : State) (cfg : Cfg) : State := { s with cfg := cfg }

section
variable {s t : State} {cfg : Cfg}

theorem State.Inv.withCfg (h : s.Inv) (cfg : Cfg) : (s.withCfg cfg).Inv := ⟨h.onTime, h.numbered, h.bubbles, h.counter⟩

theorem blocked_withCfg (h : s.Inv) (hreq : ∀ m c, req s.params cfg m c = req s.params s.cfg m c) {c : Cut}
    (hc : s.advanced.candidate? = some c) :
    (s.withCfg cfg).advanced.blocked c.cand.metadata c.cand.currentStage =
      s.advanced.blocked c.cand.metadata c.cand.currentStage := by
  rw [Bool.eq_iff_iff, h.blocked_iff hc, (h.withCfg cfg).blocked_iff hc]
  simp only [TooClose, State.withCfg, hreq]

theorem step_withCfg (h : s.Inv) (hreq : ∀ m c, req s.params cfg m c = req s.params s.cfg m c)
    (hs : step s = .next t) : step (s.withCfg cfg) = .next (t.withCfg cfg) := by
  obtain ⟨hr, ⟨hd, rfl⟩ | ⟨hd, u, hu, rfl⟩⟩ := step_next hs
  · exact step_of_done hr hd
  · have hissue : issue (s.withCfg cfg).advanced = .next (u.withCfg cfg) := by
      rw [issue_eq]
      obtain ⟨hc, rfl⟩ | ⟨c, hc, hb, rfl⟩ | ⟨c, hc, hb, hfits, rfl⟩ := issue_next hu
      · rw [show (s.withCfg cfg).advanced.candidate? = none from hc]
        rfl
      · rw [show (s.withCfg cfg).advanced.candidate? = some c from hc]
        exact arbitrate_of_not_blocked hc ((blocked_withCfg h hreq hc).trans hb)
      · rw [show (s.withCfg cfg).advanced.candidate? = some c from hc]
        exact arbitrate_of_blocked hc ((blocked_withCfg h hreq hc).trans hb) hfits
    rw [step_of_running (s := s.withCfg cfg) hr hd, hissue]
    rfl

theorem runToEnd_withCfg (h : s.Inv) (hreq : ∀ m c, req s.params cfg m c = req s.params s.cfg m c) {k k' : Nat}
    {t' : State} (ht : runToEnd k s = .next t) (hd : t.done = true) (ht' : runToEnd k' (s.withCfg cfg) = .next t')
    (hd' : t'.done = true) : t' = t.withCfg cfg := by
  induction k generalizing s k' with
  | zero =>
    obtain rfl : s = t := Host.Outcome.next.inj ht
    exact (Host.Outcome.next.inj ((runToEnd_of_done (s := s.withCfg cfg) hd).symm.trans ht')).symm
  | succ k ih =>
    cases hds : s.done with
    | true =>
      obtain rfl : s = t := Host.Outcome.next.inj ((runToEnd_of_done hds).symm.trans ht)
      exact (Host.Outcome.next.inj ((runToEnd_of_done (s := s.withCfg cfg) hds).symm.trans ht')).symm
    | false =>
      cases hu : step s with
      | next u =>
        have hu' := step_withCfg h hreq hu
        obtain ⟨hcfg, hparams⟩ := step_cfg_params hu
        cases k' with
        | zero =>
          obtain rfl : s.withCfg cfg = t' := Host.Outcome.next.inj ht'
          exact absurd (hds.symm.trans hd') Bool.false_ne_true
        | succ k' =>
          refine ih (k' := k') (h.step hu) (by rw [hcfg, hparams]; exact hreq) (runToEnd_of_next hds hu ▸ ht) ?_
          exact (runToEnd_of_next (s := s.withCfg cfg) hds hu').symm.trans ht'
      | fault r => cases r
      | refused r => simp [runToEnd_of_refused hds hu] at ht

end

/-- Settles O56: the distances are compared, and with them the schedules and the slots. -/
theorem forwardingNeverAddsBubbles : Obligations.ForwardingNeverAddsBubbles := by
  refine ⟨fun instrs cfg P k₁ k₂ t₁ t₂ ht₁ hd₁ ht₂ hd₂ => ?_, fun s c => raw_strict_forwarding,
    fun instrs cfg P k₁ k₃ t₁ t₃ hP ht₁ hd₁ ht₃ hd₃ => ?_⟩
  · have hon₁ := (start_onSchedule instrs _ P).of_runToEnd ht₁
    have hon₂ := (start_onSchedule instrs _ P).of_runToEnd ht₂
    rw [hon₁.bubbles_of_done hd₁, hon₂.bubbles_of_done hd₂]
    refine ⟨Nat.sub_le_sub_right (finalSlots_mono (req_forwarding_le P cfg) instrs) _, fun hP hc => ?_⟩
    refine Nat.sub_eq_zero_of_le (finalSlots_le_length (fun m c => ?_) instrs)
    rw [req_strict_forwarding hP, req_control_off (cfg := { cfg with dataHazardEnabled := false }) rfl hc]
  · have hsame := runToEnd_withCfg (start_inv instrs { cfg with forwarding := true } P)
      (cfg := { cfg with dataHazardEnabled := false }) (fun m c => (req_strict_forwarding hP cfg m c).symm) ht₁ hd₁
      (t' := t₃) ht₃ hd₃
    rw [hsame]
    exact ⟨rfl, rfl⟩

end Sys2Proof.Machine
end
